-- ==== Sys2Proof/Word.lean ====
section
/-! DEFINITION. The words of the register window and the grey levels of a pixel. -/

namespace Sys2Proof

/-- One register of the window, one stream word, one table word: 16 bits (R153). -/
abbrev Word := BitVec 16

/-- A pixel level, 0 (black) to 15 (white) (00_scope.md, Grey levels and rounding). -/
abbrev Level := BitVec 4

/-- A tag, 1 to 255; 0 names no request (00_scope.md, Tags). -/
abbrev Tag := BitVec 8

end Sys2Proof
end

