-- ==== Sys2Proof/Syntax.lean ====
section
/-! DEFINITION. The commands and events the part takes: one constructor of `Instr` per row of spec/opcode_table.json. -/

namespace Sys2Proof

/-- How a stream access reaches LOAD_DATA: by its address, or by a strobe with nDACK low (R34). -/
inductive StreamPort where
  | addressed | nDack
deriving DecidableEq, Repr, Inhabited

/-- The two geometry registers (R16). -/
inductive PanelAxis where
  | width | height
deriving DecidableEq, Repr, Inhabited

/-- Which of the Region Engine and the Power Sequencer takes a frame start first: the manual leaves the order
open (R111, R126), so the event carries it (log 10). -/
inductive FrameOrder where
  | regionFirst | sequencerFirst
deriving DecidableEq, Repr, Inhabited

/-- The two kinds of bus access, for one made while nRESET is low (R163). -/
inductive BusAccess where
  | read | write
deriving DecidableEq, Repr, Inhabited

/-- The 32 registers of the window (Table 11.1). -/
inductive Reg where
  | id | control | status | event | eventMask | command | cmdResult
  | arg (n : Fin 6)
  | loadData | tableIndexHi | tableIndexLo | tableData
  | comp (n : Fin 4)
  | frameCount | tempCode | band
  | panelW | panelH | frameTime | powerTimes | frameCounts | policy | scanTemp | revision
deriving DecidableEq, Repr, Inhabited

/-- The byte offset of a register (Table 11.1). -/
def Reg.offset : Reg → Nat
  | .id => 0x00 | .control => 0x02 | .status => 0x04 | .event => 0x06 | .eventMask => 0x08
  | .command => 0x0A | .cmdResult => 0x0C | .arg n => 0x0E + 2 * n.val | .loadData => 0x1A
  | .tableIndexHi => 0x1C | .tableIndexLo => 0x1E | .tableData => 0x20 | .comp n => 0x22 + 2 * n.val
  | .frameCount => 0x2A | .tempCode => 0x2C | .band => 0x2E | .panelW => 0x30 | .panelH => 0x32
  | .frameTime => 0x34 | .powerTimes => 0x36 | .frameCounts => 0x38 | .policy => 0x3A
  | .scanTemp => 0x3C | .revision => 0x3E

/-- One constructor per row of the table. A command takes its arguments from ARG0 to ARG5 (R154), so it has no
operand; a write carries its word; an event carries what comes from outside the part. -/
inductive Instr where
  | submit | cancel | cancelAll | pop
  | loadOpen | loadClose | fill | tileSet
  | modeCheck | modeErase
  | powerUp | powerDown | clearFault | sampleTemp | softReset
  | unknownCommand (code : Word)
  | loadDataWrite (port : StreamPort) (word : Word)
  | loadDataRead (port : StreamPort)
  | stretchedWriteComplete | stretchedReadComplete
  | tableDataWrite (word : Word)
  | bandTableWrite (word : Word)
  | readOnlySpaceWrite (word : Word)
  | tableDataRead | statusRead
  | eventWrite (word : Word)
  | eventMaskWrite (word : Word)
  | panelGeometryWrite (axis : PanelAxis) (word : Word)
  | policyWrite (word : Word)
  | controlWrite (word : Word)
  | registerWrite (reg : Reg) (word : Word)
  | vddApplied | pinReset | resetRelease
  | busAccessInReset (access : BusAccess)
  | pgoodRise | pgoodFall
  | frameTimerExpiry (order : FrameOrder)
  | frameStart (order : FrameOrder)
  | scanEnd (order : FrameOrder)
  | riseTimerExpiry | fallTimerExpiry
  | idleCountReached (order : FrameOrder)
  | dischargeCountReached
  | periodicConversionRequest (order : FrameOrder)
  | conversionEnd (code : BitVec 10)
  | checkEnd | quadAccess
  | drainEnd | fillEnd | snapshotEnd | commitEnd
  | entryExamination | autoPresentationRetry
deriving DecidableEq, Repr, Inhabited

end Sys2Proof
end

