-- ==== Sys2Proof/Config.lean ====
section
/-! DEFINITION. What the part fixes once, and the free values: what the manual leaves undefined. -/

namespace Sys2Proof

/-- The three image planes (R1, Table 1.1). -/
inductive Plane where
  | target | current | frozen
deriving DecidableEq, Repr, Inhabited

/-- A pair-map entry: NEUTRAL (`none`) or a row offset 0 to 2047 (R39). -/
abbrev PairEntry := Option (BitVec 11)

namespace Config

/-- Columns of a plane (R1). -/
def planeColumns : Nat := 1024
/-- Rows of a plane (R1). -/
def planeRows : Nat := 768
/-- Places of the Request Queue (R59). -/
def queuePlaces : Nat := 8
/-- Places of the Completion Queue (R144). -/
def completionPlaces : Nat := 16
/-- Words of the load stream FIFO (R22). -/
def fifoPlaces : Nat := 32
/-- Rows of the row pool (R40). -/
def poolRows : Nat := 2048
/-- What ID reads (R153). -/
def idWord : Word := 0x2408
/-- What REVISION reads (R153). -/
def revisionWord : Word := 0x0001

/-- FREE VALUE (log 2): the level a pixel holds that nothing has written since VDD was applied
("any value from 0 to 15 may be read back", R5). Arguments: the power-up index, the plane, the pixel address. -/
opaque powerUpLevel : Nat → Plane → Nat → Level

/-- FREE VALUE (log 2): a pair-map entry that nothing has written since VDD was applied (R56).
Arguments: the power-up index, the offset in table space 1. -/
opaque powerUpPair : Nat → Nat → PairEntry

/-- FREE VALUE (log 2): a row word that nothing has written since VDD was applied (R56).
Arguments: the power-up index, the offset in table space 2. -/
opaque powerUpRow : Nat → Nat → Word

end Config

end Sys2Proof
end

