-- ==== Sys2Proof/Machine/State.lean ====
section
/-! DEFINITION. The state of the part as plain data, block by block, and its value after reset. -/

namespace Sys2Proof.Machine

/-- Whether the part has been reset since VDD was applied, and whether nRESET is low (R162, R163). -/
inductive Phase where
  /-- VDD has been applied and nRESET has not been low since: every block but the Power Sequencer is undefined. -/
  | undefined
  /-- nRESET is low: every block holds its pin-reset state and no access is taken. -/
  | inReset
  /-- nRESET is high after a pin reset. -/
  | running
deriving DecidableEq, Repr, Inhabited

/-- Command results (Table 11.3). -/
inductive Result where
  | accepted | queueFull | badRect | badMode | badTag | modeNotReady | tagInUse | notFound
  | tooLate | busy | badState | empty | inUse | badArg | unknownCommand
deriving DecidableEq, Repr, Inhabited

/-- A rectangle in pixels (00_scope.md, Coordinates and rectangles). -/
structure Rect where
  x : Nat
  y : Nat
  w : Nat
  h : Nat
deriving DecidableEq, Repr, Inhabited

/-- A LOAD_DATA access that nWAIT is stretching: a write with its word (R22), or a read (R26). -/
inductive Stretch where
  | write (word : Word)
  | read
deriving DecidableEq, Repr, Inhabited

/-- Bus Interface: the registers it owns, the sticky flags, and the access being stretched (R153 to R161). -/
structure BusInterface where
  autoWake     : Bool
  dreqEnable   : Bool
  statusPage   : BitVec 2
  command      : Word
  cmdResult    : Result
  args         : Vector Word 6
  tableSpace   : BitVec 3
  tableOffset  : BitVec 20
  cfgRefused   : Bool
  tableRefused : Bool
  /-- The word that the last read access returned; what D[15:0] carries is `State.dataBus` (log 15). -/
  busData      : Word
  stretched    : Option Stretch
deriving DecidableEq, Repr, Inhabited

/-- The configuration fields as taken (R156) and the geometry in force (R16). -/
structure ConfigRegs where
  frameTime       : Nat
  riseLimit       : Nat
  fallTime        : Nat
  idleFrames      : Nat
  dischargeFrames : Nat
  partialLimit    : Nat
  cleanMode       : Fin 8
  sckDiv          : Nat
  tempPeriod      : Nat
  panelW          : Nat
  panelH          : Nat
deriving DecidableEq, Repr, Inhabited

/-- A store that lists what has been written since VDD was applied: addresses strictly rising. -/
abbrev Sparse (α : Type) := List (Nat × α)

/-- Image memory: three planes, keyed by pixel address y * 1024 + x (R1). -/
structure ImageMemory where
  target  : Sparse Level
  current : Sparse Level
  frozen  : Sparse Level
deriving DecidableEq, Repr, Inhabited

/-- Load Engine states (Table 2.1). -/
inductive LoadState where
  | closed | writing | draining | reading | filling | autoPending
deriving DecidableEq, Repr, Inhabited

/-- Direction of a load window (R18). -/
inductive Direction where
  | write | read | fill
deriving DecidableEq, Repr, Inhabited

/-- The auto-submit template (R18). -/
structure Template where
  tag       : Tag
  mode      : BitVec 4
  notify    : Bool
  noPromote : Bool
deriving DecidableEq, Repr, Inhabited

/-- Reason of the last LOAD_END (R35). -/
inductive EndReason where
  | none | complete | short | discarded
deriving DecidableEq, Repr, Inhabited

/-- Reason of the last LOAD_ERR (R35). -/
inductive ErrReason where
  | none | overrun | autoRefused
deriving DecidableEq, Repr, Inhabited

/-- Load Engine: its state, the load window record (R18), the FIFO and the STATUS fields (R35). -/
structure LoadEngine where
  state          : LoadState
  direction      : Direction
  plane          : Plane
  rect           : Rect
  orientation    : Fin 8
  streamCount    : Nat
  remaining      : Nat
  closeRequested : Bool
  autoSubmit     : Bool
  template       : Template
  fillLevel      : Level
  fifo           : List Word
  /-- Pixels of the head word already written to TARGET (R23). -/
  wordPos        : Nat
  /-- Pixels of the word being prefetched that have been read (R25). -/
  assembled      : List Level
  /-- The presentations that QROOMs have brought and that have not been made yet (R31, R72; log 20). -/
  retriesOwed    : Nat
  endReason      : EndReason
  errReason      : ErrReason
  loadResult     : Result
deriving DecidableEq, Repr, Inhabited

/-- Mode states (R37, Table 3.3); OPEN is `opened`. -/
inductive ModeState where
  | empty | opened | checking | ready | bad
deriving DecidableEq, Repr, Inhabited

/-- The first defect the last check found (R49). -/
inductive BadReason where
  | noBand | frameCount | rowRange | illegalCode | checkWord
deriving DecidableEq, Repr, Inhabited

/-- A mode descriptor (Table 3.1); its in-use count is computed from the queue and the slots (R44). -/
structure Descriptor where
  state       : ModeState
  badReason   : Option BadReason
  levelCode   : BitVec 2
  flash       : Bool
  changedOnly : Bool
  rowBase     : BitVec 11
  rowCount    : BitVec 12
  bandSet     : BitVec 8
  frameCounts : Vector (BitVec 7) 8
  checkWord   : Word
deriving DecidableEq, Repr, Inhabited

/-- CHECK_RESULT (R55, Table 11.5). -/
inductive CheckResult where
  | none | ready | bad (r : BadReason) | abandoned
deriving DecidableEq, Repr, Inhabited

/-- Waveform Store: descriptors, pair maps (keyed by space 1 offset), row pool (keyed by space 2 offset). -/
structure WaveformStore where
  modes       : Vector Descriptor 8
  pairs       : Sparse PairEntry
  rows        : Sparse Word
  checkMode   : Fin 8
  checkResult : CheckResult
deriving DecidableEq, Repr, Inhabited

/-- Why the Dispatcher refused to start a request (R65). -/
inductive RejectReason where
  | bandUnsupported | needsClean | cleanUnavailable
deriving DecidableEq, Repr, Inhabited

/-- Entry states (Table 4.3); the reject reason is present in REJECTING only. -/
inductive EntryState where
  | waiting | withdrawn | rejecting (r : RejectReason)
deriving DecidableEq, Repr, Inhabited

/-- A request entry (Table 4.1). `due`: the running pass has been given the entry and has not reached it (R76). -/
structure Entry where
  tag       : Tag
  rect      : Rect
  mode      : Fin 8
  notify    : Bool
  noPromote : Bool
  afterTag  : Tag
  state     : EntryState
  due       : Bool
deriving DecidableEq, Repr, Inhabited

/-- The Dispatcher's two flags (R75). -/
structure Dispatcher where
  passInProgress : Bool
  passOwed       : Bool
deriving DecidableEq, Repr, Inhabited

/-- Slot states (Table 6.2). -/
inductive SlotState where
  | free | starting | driving | committing | ending
deriving DecidableEq, Repr, Inhabited

/-- Outcome pending of a slot in ENDING (R92). -/
inductive SlotOutcome where
  | done | cancelled | fault
deriving DecidableEq, Repr, Inhabited

/-- A region slot (Table 6.1). -/
structure Slot where
  state          : SlotState
  tag            : Tag
  rect           : Rect
  mode           : Fin 8
  band           : Fin 8
  frameTotal     : Nat
  frameIndex     : Nat
  framesDriven   : Nat
  startStamp     : Option Word
  snapshotDone   : Bool
  outcome        : Option SlotOutcome
  promoted       : Bool
  widened        : Bool
  notify         : Bool
  drivenAnything : Bool
deriving DecidableEq, Repr, Inhabited

/-- A tile record (Table 1.4). -/
structure Tile where
  owner : Option (Fin 16)
  known : Bool
  count : Nat
deriving DecidableEq, Repr, Inhabited

/-- The two kinds of memory job (R94). -/
inductive JobKind where
  | snapshot | commit
deriving DecidableEq, Repr, Inhabited

/-- Four horizontally adjacent pixels (R1). -/
abbrev Quad := Vector Level 4

/-- A memory job: the quads it has finished, and the quad it has read and not yet written (R94, R95, R100). -/
structure Job where
  slot      : Fin 16
  kind      : JobKind
  quadsDone : Nat
  held      : Option Quad
deriving DecidableEq, Repr, Inhabited

/-- One slot of the frame plan (R99). -/
structure PlanEntry where
  slot       : Fin 16
  rect       : Rect
  mode       : Fin 8
  band       : Fin 8
  frameIndex : Nat
deriving DecidableEq, Repr, Inhabited

/-- Drive codes (Table 0.5). -/
inductive DriveCode where
  | neutral | darken | lighten | ground
deriving DecidableEq, Repr, Inhabited

/-- A pixel's code as formed ahead of its shifting, with the slot that drives it (R114). -/
structure FormedPixel where
  code  : DriveCode
  owner : Option (Fin 16)
deriving DecidableEq, Repr, Inhabited

/-- An ON scan or a discharge scan (R112). -/
inductive ScanKind where
  | drive | discharge
deriving DecidableEq, Repr, Inhabited

/-- The scan in progress: what it latched, its place in the frame, and the codes formed (R112 to R114). -/
structure Scan where
  kind     : ScanKind
  sckDiv   : Nat
  w        : Nat
  h        : Nat
  /-- Line time, 1 to h + 4 (R113). -/
  line     : Nat
  /-- SCK period within the line time, 1 to w / 8 + 2 (R113). -/
  period   : Nat
  /-- The row being shifted. -/
  shifting : List FormedPixel
  /-- The pixels of the next row whose codes have been formed, from the left. -/
  formed   : List FormedPixel
  /-- A quad of CURRENT read and waiting for its quad of FROZEN, with its number in the row. -/
  fromRead : Option (Nat × Quad)
deriving DecidableEq, Repr, Inhabited

/-- Frame timer, held frame start and frame counter (R110, R111, R117). `period`: length, in tenths of a
millisecond, of the period running; `none` while a frame start is held or nRESET is low. -/
structure FrameUnit where
  period  : Option Nat
  held    : Bool
  counter : Word
deriving DecidableEq, Repr, Inhabited

/-- Power Sequencer states (Table 8.1). -/
inductive PowerState where
  | off | rising | on | discharging | falling | fault
deriving DecidableEq, Repr, Inhabited

/-- FAULT_REASON (R121). -/
inductive FaultReason where
  | none | riseTimeout | supplyLost | fallTimeout
deriving DecidableEq, Repr, Inhabited

/-- Power Sequencer (R121). A timer that runs holds the length, in milliseconds, it started with. -/
structure PowerSequencer where
  state               : PowerState
  downPending         : Bool
  wakePending         : Bool
  idleCount           : Nat
  dischargeCount      : Nat
  riseTimer           : Option Nat
  fallTimer           : Option Nat
  faultReason         : FaultReason
  dischargeIncomplete : Bool
deriving DecidableEq, Repr, Inhabited

/-- A classification: a band or OUT (R138). -/
inductive TempClass where
  | band (b : Fin 8) | out
deriving DecidableEq, Repr, Inhabited

/-- Why the last classification was OUT (R134). -/
inductive ClassReason where
  | none | below | above | bandTableBad
deriving DecidableEq, Repr, Inhabited

/-- Temperature Unit (R134). `current = none` is NONE. -/
structure TempUnit where
  converting  : Bool
  code        : BitVec 10
  current     : Option TempClass
  candidate   : Option TempClass
  last        : Option TempClass
  reason      : ClassReason
  periodCount : Nat
  lowLimit    : BitVec 10
  bandCount   : BitVec 4
  upper       : Vector (BitVec 11) 8
deriving DecidableEq, Repr, Inhabited

/-- Outcome of a completion record; the reason is present with REJECTED only (Table 10.1). -/
inductive RecordOutcome where
  | done | cancelled | fault | rejected (r : RejectReason)
deriving DecidableEq, Repr, Inhabited

/-- A completion record (Table 10.1). -/
structure Record where
  tag          : Tag
  outcome      : RecordOutcome
  promoted     : Bool
  widened      : Bool
  started      : Bool
  mode         : Fin 8
  band         : Option (Fin 8)
  framesDriven : Nat
  startStamp   : Option Word
  endStamp     : Word
deriving DecidableEq, Repr, Inhabited

/-- A poster: a slot in ENDING, or the entry that bears a tag (R145). -/
inductive Poster where
  | slot (n : Fin 16)
  | entry (tag : Tag)
deriving DecidableEq, Repr, Inhabited

/-- The whole part. -/
structure State where
  /-- The commands and events waiting, oldest first. -/
  pending     : List Instr
  phase       : Phase
  /-- The model's own index of the free values (log 1, log 2). -/
  freeIndex   : Nat
  /-- The PGOOD pin. -/
  pgood       : Bool
  bus         : BusInterface
  config      : ConfigRegs
  events      : BitVec 10
  eventMask   : BitVec 10
  image       : ImageMemory
  load        : LoadEngine
  store       : WaveformStore
  queue       : List Entry
  dispatcher  : Dispatcher
  slots       : Vector Slot 16
  tiles       : List Tile
  jobs        : List Job
  plan        : List PlanEntry
  frame       : FrameUnit
  scan        : Option Scan
  power       : PowerSequencer
  temp        : TempUnit
  completions : List Record
  posters     : List Poster
deriving DecidableEq, Repr, Inhabited

/-- No command of this part stops the machine: the manual gives every command and event an effect, so there is no
fault to raise. -/
inductive Fault where
deriving DecidableEq, Repr

/-- Why a command is refused. -/
inductive Refusal where
  /-- Raised by `exec` for a command that has no meaning yet. Safe: nothing follows from it. No arm uses it. -/
  | notModelled (mnemonic : String)
deriving DecidableEq, Repr

/-- The step of one command: its answer. -/
abbrev Answer := Host.Outcome State Fault Refusal

/-- FREE VALUE (log 1): the state of the blocks that the manual leaves undefined between the application of VDD and
the first pin reset (R162). -/
opaque undefinedBlocks : Nat → State

/-- Bus Interface after a pin reset (R161). -/
def BusInterface.reset : BusInterface where
  autoWake := false
  dreqEnable := false
  statusPage := 0
  command := 0
  cmdResult := .accepted
  args := Vector.replicate 6 0
  tableSpace := 0
  tableOffset := 0
  cfgRefused := false
  tableRefused := false
  busData := 0
  stretched := none

/-- Configuration after a pin reset (Table 11.1). -/
def ConfigRegs.reset : ConfigRegs where
  frameTime := 200
  riseLimit := 40
  fallTime := 20
  idleFrames := 25
  dischargeFrames := 8
  partialLimit := 6
  cleanMode := 0
  sckDiv := 2
  tempPeriod := 50
  panelW := 1024
  panelH := 768

/-- The cleared Load Engine: CLOSED, FIFO empty, record cleared (R36). -/
def LoadEngine.reset : LoadEngine where
  state := .closed
  direction := .write
  plane := .target
  rect := ⟨0, 0, 0, 0⟩
  orientation := 0
  streamCount := 0
  remaining := 0
  closeRequested := false
  autoSubmit := false
  template := ⟨0, 0, false, false⟩
  fillLevel := 0
  fifo := []
  wordPos := 0
  assembled := []
  retriesOwed := 0
  endReason := .none
  errReason := .none
  loadResult := .accepted

/-- The zeroed descriptor (R53). -/
def Descriptor.zeroed : Descriptor where
  state := .empty
  badReason := none
  levelCode := 0
  flash := false
  changedOnly := false
  rowBase := 0
  rowCount := 0
  bandSet := 0
  frameCounts := Vector.replicate 8 0
  checkWord := 0

/-- Waveform Store after a pin reset, with nothing written to its tables since VDD (R56). -/
def WaveformStore.reset : WaveformStore where
  modes := Vector.replicate 8 Descriptor.zeroed
  pairs := []
  rows := []
  checkMode := 0
  checkResult := .none

/-- A FREE slot, every other field cleared (R92). -/
def Slot.cleared : Slot where
  state := .free
  tag := 0
  rect := ⟨0, 0, 0, 0⟩
  mode := 0
  band := 0
  frameTotal := 0
  frameIndex := 0
  framesDriven := 0
  startStamp := none
  snapshotDone := false
  outcome := none
  promoted := false
  widened := false
  notify := false
  drivenAnything := false

/-- An unowned, UNKNOWN tile with partial count 0 (R14). -/
def Tile.blank : Tile := ⟨none, false, 0⟩

/-- Power Sequencer in OFF with everything stopped and clear (R132). -/
def PowerSequencer.reset : PowerSequencer where
  state := .off
  downPending := false
  wakePending := false
  idleCount := 0
  dischargeCount := 0
  riseTimer := none
  fallTimer := none
  faultReason := .none
  dischargeIncomplete := false

/-- Temperature Unit after a pin reset (R137, R141). -/
def TempUnit.reset : TempUnit where
  converting := false
  code := 0
  current := none
  candidate := none
  last := none
  reason := .none
  periodCount := 0
  lowLimit := 0
  bandCount := 1
  upper := #v[1024, 0, 0, 0, 0, 0, 0, 0]

/-- The machine right after reset: a pin reset whose nRESET has returned high (R161, R162; log 3). -/
def State.reset : State where
  pending := []
  phase := .running
  freeIndex := 0
  pgood := false
  bus := BusInterface.reset
  config := ConfigRegs.reset
  events := 0
  eventMask := 0
  image := ⟨[], [], []⟩
  load := LoadEngine.reset
  store := WaveformStore.reset
  queue := []
  dispatcher := ⟨false, false⟩
  slots := Vector.replicate 16 Slot.cleared
  tiles := List.replicate 3072 Tile.blank
  jobs := []
  plan := []
  frame := ⟨some 200, false, 0⟩
  scan := none
  power := PowerSequencer.reset
  temp := TempUnit.reset
  completions := []
  posters := []

end Sys2Proof.Machine
end

