-- ==== Sys2Proof/Machine/Operands.lean ====
section
/-! DEFINITION. Operand forms: bit fields, the argument words of the commands (Table 11.4), codes and packing. -/

namespace Sys2Proof.Machine

/-- The number in bits `lo + len - 1` to `lo` of a word. -/
def field (w : Word) (lo len : Nat) : Nat := (w.toNat / 2 ^ lo) % 2 ^ len

/-- The field of `len` bits from bit `lo`, as bits. -/
def fieldBits (w : Word) (lo len : Nat) : BitVec len := w.extractLsb' lo len

/-- Bit `i` of a word. -/
def bitOf (w : Word) (i : Nat) : Bool := w.getLsbD i

/-- A register word from its fields, each given as (lowest bit, value); bits that carry no field read 0 (R153). -/
def pack (fields : List (Nat × Nat)) : Word :=
  BitVec.ofNat 16 ((fields.map fun f => f.2 * 2 ^ f.1).sum)

/-- 1 for set, 0 for clear. -/
def flagBit (b : Bool) : Nat := if b then 1 else 0

/-- A written value taken clamped to the nearest limit (R156). -/
def clamp (lo hi v : Nat) : Nat := if v < lo then lo else if hi < v then hi else v

/-- A configuration value clamped to 0 to 7 (R54). -/
def clampMode (v : Nat) : Fin 8 := if h : v < 8 then ⟨v, h⟩ else 7

/-- Result codes (Table 11.3). -/
def Result.code : Result → Nat
  | .accepted => 0 | .queueFull => 1 | .badRect => 2 | .badMode => 3 | .badTag => 4
  | .modeNotReady => 5 | .tagInUse => 6 | .notFound => 7 | .tooLate => 8 | .busy => 9
  | .badState => 10 | .empty => 11 | .inUse => 12 | .badArg => 13 | .unknownCommand => 14

/-- Argument word n as it stands (R154). -/
def State.arg (s : State) (n : Fin 6) : Word := s.bus.args[n]

/-- The rectangle in ARG0 to ARG3, four whole words (R155). -/
def State.argRect (s : State) : Rect :=
  ⟨(s.arg 0).toNat, (s.arg 1).toNat, (s.arg 2).toNat, (s.arg 3).toNat⟩

/-- The tag in ARG4 bits 7:0, for SUBMIT and CANCEL (Table 11.4). -/
def State.argTag (s : State) : Tag := fieldBits (s.arg 4) 0 8

/-- An update request as it is offered to the Request Queue (R61, R30). -/
structure Request where
  tag       : Tag
  afterTag  : Tag
  rect      : Rect
  mode      : BitVec 4
  notify    : Bool
  noPromote : Bool
deriving DecidableEq, Repr, Inhabited

/-- SUBMIT's arguments (Table 11.4). -/
def State.argRequest (s : State) : Request where
  tag := fieldBits (s.arg 4) 0 8
  afterTag := fieldBits (s.arg 4) 8 8
  rect := s.argRect
  mode := fieldBits (s.arg 5) 0 4
  notify := bitOf (s.arg 5) 4
  noPromote := bitOf (s.arg 5) 5

/-- The template in ARG4 bits 15:8 and ARG5, for LOAD_OPEN and FILL (Table 11.4). -/
def State.argTemplate (s : State) : Template where
  tag := fieldBits (s.arg 4) 8 8
  mode := fieldBits (s.arg 5) 0 4
  notify := bitOf (s.arg 5) 4
  noPromote := bitOf (s.arg 5) 5

/-- The plane a LOAD_OPEN names, if its code names one: 0 TARGET, 1 CURRENT, 2 FROZEN, 3 no plane. -/
def State.argPlane (s : State) : Option Plane :=
  match field (s.arg 4) 1 2 with
  | 0 => some .target
  | 1 => some .current
  | 2 => some .frozen
  | _ => none

/-- The orientation of a LOAD_OPEN, ARG4 bits 6:3, if it is 0 to 7 (R155). -/
def State.argOrientation (s : State) : Option (Fin 8) :=
  if h : field (s.arg 4) 3 4 < 8 then some ⟨field (s.arg 4) 3 4, h⟩ else none

/-- The mode number of MODE_CHECK and MODE_ERASE, ARG0 bits 3:0, if it is 0 to 7 (R155). -/
def State.argMode (s : State) : Option (Fin 8) :=
  if h : field (s.arg 0) 0 4 < 8 then some ⟨field (s.arg 0) 0 4, h⟩ else none

/-- A mode field of four bits as a mode number, if it is 0 to 7 (R155). -/
def modeNumber (m : BitVec 4) : Option (Fin 8) :=
  if h : m.toNat < 8 then some ⟨m.toNat, h⟩ else none

/-- A drive code from its two bits (Table 0.5). -/
def DriveCode.ofBits : Nat → DriveCode
  | 0 => .neutral
  | 1 => .darken
  | 2 => .lighten
  | _ => .ground

/-- The two bits of a drive code (Table 0.5). -/
def DriveCode.bits : DriveCode → Nat
  | .neutral => 0 | .darken => 1 | .lighten => 2 | .ground => 3

end Sys2Proof.Machine
end

