-- ==== Sys2Proof/Machine/Flags.lean ====
section
/-! DEFINITION. The event flags, the interrupt line and the sticky STATUS flags. -/

namespace Sys2Proof.Machine

/-- The ten event flags (Table 10.2). -/
inductive Event where
  | complete | qroom | loadEnd | loadErr | table | tableErr | temp | pwr | pwrFault | frameLate
deriving DecidableEq, Repr, Inhabited

/-- A flag's place in EVENT and EVENT_MASK (Table 11.6). -/
def Event.place : Event → Nat
  | .complete => 0 | .qroom => 1 | .loadEnd => 2 | .loadErr => 3 | .table => 4
  | .tableErr => 5 | .temp => 6 | .pwr => 7 | .pwrFault => 8 | .frameLate => 9

/-- Whether a flag is set in EVENT. -/
def State.flag (s : State) (e : Event) : Bool := s.events.getLsbD e.place

/-- A raising sets the flag, whether or not it was already set (R149). -/
def State.raise (s : State) (e : Event) : State :=
  { s with events := s.events ||| (1#10 <<< e.place) }

/-- A write to EVENT clears every flag written with 1 (R149). -/
def State.clearFlags (s : State) (w : Word) : State :=
  { s with events := s.events &&& ~~~(fieldBits w 0 10) }

/-- nINT is low while some flag is both set and enabled (R150); `true` is high. -/
def State.nINT (s : State) : Bool := s.events &&& s.eventMask == 0#10

/-- Sets the sticky flag CFG_REFUSED (R16). -/
def State.refuseConfig (s : State) : State := { s with bus := { s.bus with cfgRefused := true } }

/-- Sets TABLE_REFUSED and raises TABLE_ERR (R46). -/
def State.refuseTable (s : State) : State :=
  { s with bus := { s.bus with tableRefused := true } }.raise .tableErr

/-- The sticky flags cleared by a read of STATUS (R157). -/
def State.clearSticky (s : State) : State :=
  { s with bus := { s.bus with cfgRefused := false, tableRefused := false } }

end Sys2Proof.Machine
end

