-- ==== Sys2Proof/Machine/Ops.lean ====
section
/-! DEFINITION. The named operations over the part's stores: sparse stores, planes and quads, rectangles and
tiles, the waveform tables, slots and modes, tag lookup, dispatch passes, and the phases of the part. -/

namespace Sys2Proof.Machine

/-! ### Sparse stores -/

/-- What has been written at an address, if anything has. -/
def Sparse.find {α : Type} : Sparse α → Nat → Option α
  | [], _ => none
  | (k, v) :: t, a => if a = k then some v else if a < k then none else Sparse.find t a

/-- A write, keeping the addresses strictly rising. -/
def Sparse.write {α : Type} : Sparse α → Nat → α → Sparse α
  | [], a, v => [(a, v)]
  | (k, u) :: t, a, v =>
    if a < k then (a, v) :: (k, u) :: t
    else if a = k then (a, v) :: t
    else (k, u) :: Sparse.write t a v

/-- The canonical form: addresses strictly rising from above `lo` on. -/
def Sparse.wfFrom {α : Type} : Nat → Sparse α → Bool
  | _, [] => true
  | lo, (k, _) :: t => decide (lo ≤ k) && Sparse.wfFrom (k + 1) t

/-- The canonical form: addresses strictly rising. -/
def Sparse.wf {α : Type} (m : Sparse α) : Bool := Sparse.wfFrom 0 m

/-! ### Planes and quads (R1) -/

/-- The place of pixel (x, y) in a plane. -/
def pixelAddress (x y : Nat) : Nat := y * Config.planeColumns + x

/-- The store of one plane. -/
def ImageMemory.plane (m : ImageMemory) : Plane → Sparse Level
  | .target => m.target
  | .current => m.current
  | .frozen => m.frozen

/-- One plane replaced. -/
def ImageMemory.setPlane (m : ImageMemory) (p : Plane) (st : Sparse Level) : ImageMemory :=
  match p with
  | .target => { m with target := st }
  | .current => { m with current := st }
  | .frozen => { m with frozen := st }

/-- The level of a pixel: as last written, and a free value where nothing has written it since VDD (R5). -/
def State.pixel (s : State) (p : Plane) (x y : Nat) : Level :=
  ((s.image.plane p).find (pixelAddress x y)).getD (Config.powerUpLevel s.freeIndex p (pixelAddress x y))

/-- A pixel written. -/
def State.writePixel (s : State) (p : Plane) (x y : Nat) (l : Level) : State :=
  { s with image := s.image.setPlane p ((s.image.plane p).write (pixelAddress x y) l) }

/-- A quad read returns all four levels of the quad (R1). `q` is the quad's number in the row. -/
def State.readQuad (s : State) (p : Plane) (q y : Nat) : Quad :=
  #v[s.pixel p (4 * q) y, s.pixel p (4 * q + 1) y, s.pixel p (4 * q + 2) y, s.pixel p (4 * q + 3) y]

/-- A quad write carries levels for some pixels of a quad, in the order given, and leaves the others (R1). -/
def State.writePixels (s : State) (p : Plane) (y : Nat) : List (Nat × Level) → State
  | [] => s
  | (x, l) :: t => (s.writePixel p x y l).writePixels p y t

/-- The pixels of quad `q` that lie in columns `lo` to `hi - 1`, with their levels. -/
def quadPixels (q lo hi : Nat) (v : Quad) : List (Nat × Level) :=
  [(4 * q, v[0]), (4 * q + 1, v[1]), (4 * q + 2, v[2]), (4 * q + 3, v[3])].filter
    fun c => decide (lo ≤ c.1) && decide (c.1 < hi)

/-- Rounding of a to-level into a level set, by the level count code (Table 0.4, R37). -/
def roundLevel (code : BitVec 2) (l : Level) : Level :=
  match code.toNat with
  | 0 => if l.toNat ≤ 7 then 0 else 15
  | 1 => if l.toNat ≤ 2 then 0 else if l.toNat ≤ 7 then 5 else if l.toNat ≤ 12 then 10 else 15
  | _ => l

/-! ### Rectangles and tiles (R10) -/

/-- A rectangle is legal for a geometry of w by h pixels. -/
def Rect.legal (r : Rect) (w h : Nat) : Bool :=
  decide (1 ≤ r.w) && decide (1 ≤ r.h) && decide (r.x + r.w ≤ w) && decide (r.y + r.h ≤ h)

/-- A pixel lies inside a rectangle. -/
def Rect.contains (r : Rect) (x y : Nat) : Bool :=
  decide (r.x ≤ x) && decide (x < r.x + r.w) && decide (r.y ≤ y) && decide (y < r.y + r.h)

/-- Tile n of a panel of `w` pixels width is in the rectangle's claim set. -/
def Rect.claims (r : Rect) (w n : Nat) : Bool :=
  decide (r.x / 16 ≤ n % (w / 16)) && decide (n % (w / 16) ≤ (r.x + r.w - 1) / 16)
    && decide (r.y / 16 ≤ n / (w / 16)) && decide (n / (w / 16) ≤ (r.y + r.h - 1) / 16)

/-- Tile n is fully covered: its whole square lies inside the rectangle. -/
def Rect.covers (r : Rect) (w n : Nat) : Bool :=
  decide (r.x ≤ 16 * (n % (w / 16))) && decide (16 * (n % (w / 16)) + 15 ≤ r.x + r.w - 1)
    && decide (r.y ≤ 16 * (n / (w / 16))) && decide (16 * (n / (w / 16)) + 15 ≤ r.y + r.h - 1)

/-- Two rectangles have a tile in common in their claim sets. -/
def Rect.meets (a b : Rect) : Bool :=
  decide (a.x / 16 ≤ (b.x + b.w - 1) / 16) && decide (b.x / 16 ≤ (a.x + a.w - 1) / 16)
    && decide (a.y / 16 ≤ (b.y + b.h - 1) / 16) && decide (b.y / 16 ≤ (a.y + a.h - 1) / 16)

/-- The union of the claim set, as a rectangle. -/
def Rect.union (r : Rect) : Rect :=
  let x' := 16 * (r.x / 16)
  let y' := 16 * (r.y / 16)
  ⟨x', y', 16 * ((r.x + r.w - 1) / 16 + 1) - x', 16 * ((r.y + r.h - 1) / 16 + 1) - y'⟩

/-- The number of tile records of a geometry (R11). -/
def tileCount (w h : Nat) : Nat := (w / 16) * (h / 16)

/-- Every tile record rewritten by a function of its number and itself; `start` is the first one's number. -/
def mapTiles (f : Nat → Tile → Tile) : Nat → List Tile → List Tile
  | _, [] => []
  | start, t :: ts => f start t :: mapTiles f (start + 1) ts

/-- Some tile record meets a test of its number and itself. -/
def anyTile (f : Nat → Tile → Bool) : Nat → List Tile → Bool
  | _, [] => false
  | start, t :: ts => f start t || anyTile f (start + 1) ts

/-- The tiles of a rectangle's claim set rewritten, by a whole access to each record (R13). -/
def State.updateClaimed (s : State) (r : Rect) (f : Nat → Tile → Tile) : State :=
  { s with tiles := mapTiles (fun n t => if r.claims s.config.panelW n then f n t else t) 0 s.tiles }

/-- Some tile of the claim set meets a test. -/
def State.anyClaimed (s : State) (r : Rect) (f : Tile → Bool) : Bool :=
  anyTile (fun n t => r.claims s.config.panelW n && f t) 0 s.tiles

/-- Knowledge set to KNOWN, which also clears the partial count (R13). -/
def Tile.makeKnown (t : Tile) : Tile := { t with known := true, count := 0 }

/-- Knowledge set to UNKNOWN, which keeps the partial count (R13). -/
def Tile.makeUnknown (t : Tile) : Tile := { t with known := false }

/-- The partial count raised by one, stopping at 15 (R13). -/
def Tile.wear (t : Tile) : Tile := { t with count := if t.count < 15 then t.count + 1 else 15 }

/-- A claim: the owner of every tile of the claim set becomes the slot (R12). -/
def State.claimTiles (s : State) (n : Fin 16) (r : Rect) : State :=
  s.updateClaimed r fun _ t => { t with owner := some n }

/-- A release: every tile that the slot owns takes owner none (R12). -/
def State.releaseTiles (s : State) (n : Fin 16) : State :=
  { s with tiles := s.tiles.map fun t => if t.owner = some n then { t with owner := none } else t }

/-- The owner of the tile of pixel (x, y). -/
def State.ownerAt (s : State) (x y : Nat) : Option (Fin 16) :=
  match s.tiles[(y / 16) * (s.config.panelW / 16) + x / 16]? with
  | some t => t.owner
  | none => none

/-! ### Slots, modes and requests -/

def State.slot (s : State) (n : Fin 16) : Slot := s.slots[n]

def State.setSlot (s : State) (n : Fin 16) (sl : Slot) : State := { s with slots := s.slots.set n sl }

def State.mode (s : State) (m : Fin 8) : Descriptor := s.store.modes[m]

def State.setMode (s : State) (m : Fin 8) (d : Descriptor) : State :=
  { s with store := { s.store with modes := s.store.modes.set m d } }

/-- Slot numbers in ascending order. -/
def slotNumbers : List (Fin 16) := [0, 1, 2, 3, 4, 5, 6, 7, 8, 9, 10, 11, 12, 13, 14, 15]

/-- Mode numbers, and band numbers, in ascending order. -/
def modeNumbers : List (Fin 8) := [0, 1, 2, 3, 4, 5, 6, 7]

/-- A slot that is STARTING or DRIVING. -/
def Slot.active (sl : Slot) : Bool := sl.state == .starting || sl.state == .driving

/-- Some slot is STARTING or DRIVING (R125, R126). -/
def State.anyActive (s : State) : Bool := slotNumbers.any fun n => (s.slot n).active

/-- The lowest-numbered FREE slot (R87). -/
def State.freeSlot (s : State) : Option (Fin 16) := slotNumbers.find? fun n => (s.slot n).state == .free

/-- The mode's in-use count: queue entries in any state plus non-FREE slots that refer to it (R44). -/
def State.inUse (s : State) (m : Fin 8) : Nat :=
  s.queue.countP (fun e => e.mode == m)
    + slotNumbers.countP (fun n => (s.slot n).state != .free && (s.slot n).mode == m)

/-- The tag lookup: a live request bears the tag, in the queue or in a slot that is not FREE (R60). -/
def State.live (s : State) (t : Tag) : Bool :=
  s.queue.any (fun e => e.tag == t) || slotNumbers.any (fun n => (s.slot n).state != .free && (s.slot n).tag == t)

/-- Some request is live (R60). -/
def State.anyLive (s : State) : Bool :=
  !s.queue.isEmpty || slotNumbers.any fun n => (s.slot n).state != .free

/-- The place in the queue of the entry that bears a tag. -/
def State.entryIndex (s : State) (t : Tag) : Option Nat := s.queue.findIdx? fun e => e.tag == t

/-- The slot, not FREE, that bears a tag. -/
def State.slotOfTag (s : State) (t : Tag) : Option (Fin 16) :=
  slotNumbers.find? fun n => (s.slot n).state != .free && (s.slot n).tag == t

/-- A band is in a mode's band set (R37). -/
def Descriptor.hasBand (d : Descriptor) (b : Fin 8) : Bool := d.bandSet.getLsbD b

/-- The mode being checked, if the checker is running (R48). -/
def State.checking (s : State) : Option (Fin 8) := modeNumbers.find? fun m => (s.mode m).state == .checking

/-! ### Waveform tables (R39 to R41) -/

/-- The pair-map entry at an offset of space 1, a free value where nothing has written it since VDD (R56). -/
def State.pairAt (s : State) (off : Nat) : PairEntry :=
  (s.store.pairs.find off).getD (Config.powerUpPair s.freeIndex off)

/-- The row word at an offset of space 2, a free value where nothing has written it since VDD (R56). -/
def State.rowWordAt (s : State) (off : Nat) : Word :=
  (s.store.rows.find off).getD (Config.powerUpRow s.freeIndex off)

/-- The entry at index f * 16 + t of the pair map of mode m and band b (R39). -/
def State.pairEntry (s : State) (m b : Fin 8) (index : Nat) : PairEntry :=
  s.pairAt (2048 * m + 256 * b + index)

/-- Code i of a row word, code 0 in the lowest two bits (R40). -/
def codeInWord (w : Word) (i : Nat) : DriveCode := DriveCode.ofBits (field w (2 * i) 2)

/-- Code i of row r (R40). -/
def State.rowCode (s : State) (r i : Nat) : DriveCode := codeInWord (s.rowWordAt (8 * r + i / 8)) (i % 8)

/-- The drive lookup (R41). -/
def State.driveLookup (s : State) (m b : Fin 8) (i : Nat) (f t : Level) : DriveCode :=
  if (s.mode m).changedOnly && f == t then .neutral
  else
    match s.pairEntry m b (f.toNat * 16 + t.toNat) with
    | none => .neutral
    | some o => s.rowCode ((s.mode m).rowBase.toNat + o.toNat) i

/-- A pair-map entry as the number it reads through space 1 (R39). -/
def pairNumber : PairEntry → Nat
  | none => 0
  | some o => o.toNat + 1

/-- A number written to space 1 as the entry it is held as: above 2048 it is held as 2048 (R39). -/
def pairOfNumber (n : Nat) : PairEntry :=
  if n = 0 then none else some (BitVec.ofNat 11 (clamp 1 2048 n - 1))

/-- Row r is in the mode's row range (R40). -/
def Descriptor.inRange (d : Descriptor) (r : Nat) : Bool :=
  decide (d.rowBase.toNat ≤ r) && decide (r < d.rowBase.toNat + d.rowCount.toNat) && decide (r < Config.poolRows)

/-! ### Dispatch passes (R74 to R76) -/

/-- An entry the running pass has still to examine: given to it, not reached, still WAITING. -/
def Entry.toExamine (e : Entry) : Bool := e.due && e.state == .waiting

/-- Every entry in the queue given to a pass that begins now, or to none. -/
def State.markDue (s : State) (d : Bool) : State :=
  { s with queue := s.queue.map fun e => { e with due := d } }

/-- An event of Table 5.1: begins a pass at once, or owes one while a pass is running (R75). -/
def State.startPass (s : State) : State :=
  if s.dispatcher.passInProgress then { s with dispatcher := { s.dispatcher with passOwed := true } }
  else { s.markDue true with dispatcher := { s.dispatcher with passInProgress := true } }

/-- The end of a pass that has reached every entry it was given: an owed pass begins at once, which ends likewise
if it is given no WAITING entry (R75, R76). -/
def State.endPassIfDone (s : State) : State :=
  if s.dispatcher.passInProgress && !s.queue.any Entry.toExamine then
    if s.dispatcher.passOwed && s.queue.any (fun e => e.state == .waiting) then
      { s.markDue true with dispatcher := ⟨true, false⟩ }
    else { s.markDue false with dispatcher := ⟨false, false⟩ }
  else s

/-! ### Phases of the part (R162, R163) -/

/-- The undefined blocks drawn afresh: what holds from the application of VDD until nRESET is low, with the Power
Sequencer OFF (R162; log 1). -/
def State.redraw (s : State) : State :=
  { undefinedBlocks (s.freeIndex + 1) with
    pending := s.pending
    phase := .undefined
    freeIndex := s.freeIndex + 1
    pgood := s.pgood
    image := ⟨[], [], []⟩
    store := { (undefinedBlocks (s.freeIndex + 1)).store with pairs := [], rows := [] }
    power := PowerSequencer.reset }

end Sys2Proof.Machine
end

