-- ==== Sys2Proof/Machine/Posts.lean ====
section
/-! DEFINITION. Completion records and their posting, the removal of entries, and the ways a slot ends. -/

namespace Sys2Proof.Machine

/-- The record a slot offers (Table 6.4), with its end stamp. -/
def Slot.record (sl : Slot) (o : SlotOutcome) (stamp : Word) : Record where
  tag := sl.tag
  outcome := match o with
    | .done => .done
    | .cancelled => .cancelled
    | .fault => .fault
  promoted := sl.promoted
  widened := sl.widened
  started := true
  mode := sl.mode
  band := some sl.band
  framesDriven := sl.framesDriven
  startStamp := sl.startStamp
  endStamp := stamp

/-- The record a WITHDRAWN or REJECTING entry offers (Table 4.4), with its end stamp. -/
def Entry.record (e : Entry) (stamp : Word) : Record where
  tag := e.tag
  outcome := match e.state with
    | .rejecting r => .rejected r
    | .withdrawn => .cancelled
    | .waiting => .cancelled
  promoted := false
  widened := false
  started := false
  mode := e.mode
  band := none
  framesDriven := 0
  startStamp := none
  endStamp := stamp

/-- Some entry's after-tag names the tag. -/
def State.awaited (s : State) (t : Tag) : Bool := s.queue.any fun e => e.afterTag == t

/-- The after-tag of every entry whose after-tag is the tag cleared to 0 (R64). -/
def State.clearAfterTags (s : State) (t : Tag) : State :=
  { s with queue := s.queue.map fun e => if e.afterTag = t then { e with afterTag := 0 } else e }

/-- Steps 1 to 3 of the taking of a post: the record joins the tail, COMPLETE is raised unless the outcome is DONE
without NOTIFY, the after-tags that name the tag are cleared (R146). -/
def State.addRecord (s : State) (r : Record) (notify : Bool) : State :=
  let s := { s with completions := s.completions ++ [r] }
  let s := if r.outcome = .done && !notify then s else s.raise .complete
  s.clearAfterTags r.tag

/-- The removal of the entry at position i; from 8 entries to 7 it raises QROOM and brings a presentation of its own from
a Load Engine in AUTO_PENDING (R71, R72), which is owed until AUTO_PRESENTATION_RETRY makes it (DESIGN CHOICE, log 20). -/
def State.removeEntry (s : State) (i : Nat) : State :=
  let s' := { s with queue := s.queue.eraseIdx i }
  if s.queue.length = Config.queuePlaces ∧ s'.queue.length + 1 = Config.queuePlaces then
    let s' := s'.raise .qroom
    if s'.load.state = .autoPending then { s' with load := { s'.load with retriesOwed := s'.load.retriesOwed + 1 } }
    else s'
  else s'

/-- The taking of a slot's post: the record joins, the tiles are released and the slot becomes FREE, which starts a
pass (R106; the clearing of after-tags in the same step is the same event). -/
def State.takeSlotPost (s : State) (n : Fin 16) : State :=
  match (s.slot n).outcome with
  | none => s
  | some o =>
    (((s.addRecord ((s.slot n).record o s.frame.counter) (s.slot n).notify).releaseTiles n).setSlot n
      Slot.cleared).startPass

/-- The taking of an entry's post: the record joins and the entry is removed; a pass is started if an after-tag was
cleared (R71, R64). -/
def State.takeEntryPost (s : State) (t : Tag) : State :=
  match s.entryIndex t with
  | none => s
  | some i =>
    match s.queue[i]? with
    | none => s
    | some e =>
      let s' := (s.addRecord (e.record s.frame.counter) false).removeEntry i
      if s.awaited t then s'.startPass else s'

/-- The taking of a post, one indivisible step (R146). -/
def State.takePost (s : State) : Poster → State
  | .slot n => s.takeSlotPost n
  | .entry t => s.takeEntryPost t

/-- A poster's offer: taken at once while the Completion Queue has room, queued in the waiting-poster list
otherwise (R145). -/
def State.offer (s : State) (p : Poster) : State :=
  if s.completions.length < Config.completionPlaces then s.takePost p
  else { s with posters := s.posters ++ [p] }

/-- A slot enters ENDING with an outcome pending and offers its record (R105). -/
def State.endSlot (s : State) (n : Fin 16) (o : SlotOutcome) : State :=
  (s.setSlot n { s.slot n with state := .ending, outcome := some o }).offer (.slot n)

/-- A slot's snapshot job leaves the list before it has ended (R96). -/
def State.abandonSnapshot (s : State) (n : Fin 16) : State :=
  { s with jobs := s.jobs.filter fun j => !(j.slot == n && j.kind == .snapshot) }

/-- A slot leaves the frame plan at once (R99). -/
def State.leavePlan (s : State) (n : Fin 16) : State :=
  { s with plan := s.plan.filter fun p => p.slot != n }

/-- A STARTING slot is cut short, its tiles left as they are; a DRIVING slot is cut short and the tiles of its claim
set become UNKNOWN; other slots are left as they are (R102 with CANCELLED, R104 with FAULT). -/
def State.cutSlot (s : State) (n : Fin 16) (o : SlotOutcome) : State :=
  match (s.slot n).state with
  | .starting => (s.abandonSnapshot n).endSlot n o
  | .driving => ((s.leavePlan n).updateClaimed (s.slot n).rect fun _ t => t.makeUnknown).endSlot n o
  | .free | .committing | .ending => s

/-- The cut taken by several slots, in the order given. -/
def State.cutSlots (s : State) (o : SlotOutcome) : List (Fin 16) → State
  | [] => s
  | n :: ns => (s.cutSlot n o).cutSlots o ns

/-- An entry becomes WITHDRAWN or REJECTING (R65). -/
def State.setEntryState (s : State) (i : Nat) (st : EntryState) : State :=
  { s with queue := s.queue.modify i fun e => { e with state := st } }

/-- Several entries, named by their tags, offer their records in the order given. -/
def State.offerEntries (s : State) : List Tag → State
  | [] => s
  | t :: ts => (s.offer (.entry t)).offerEntries ts

end Sys2Proof.Machine
end

