-- ==== Sys2Proof/Machine/Sequencer.lean ====
section
/-! DEFINITION. The Power Sequencer's transitions (chapter 8). A scan that a transition must stop is stopped by
`State.settle` at the end of the same step. -/

namespace Sys2Proof.Machine

/-- Entry into ON: idle count and down-pending cleared, PWR raised, a pass started (R124). -/
def State.enterOn (s : State) : State :=
  ({ s with power := { s.power with
      state := .on, riseTimer := none, idleCount := 0, downPending := false } }.raise .pwr).startPass

/-- Entry into RISING: the rise timer starts at RISE_LIMIT and wake-pending is cleared (R122, R129); ON follows at
once where PGOOD is already high (R123). -/
def State.enterRising (s : State) : State :=
  let s := { s with power := { s.power with
    state := .rising, riseTimer := some s.config.riseLimit, wakePending := false } }
  if s.pgood then s.enterOn else s

/-- Entry into DISCHARGING: down-pending cleared, the discharge count starts at 0 (R125, R126). -/
def State.enterDischarging (s : State) : State :=
  { s with power := { s.power with state := .discharging, downPending := false, dischargeCount := 0 } }

/-- Entry into FALLING: the fall timer starts at FALL_TIME (R128). -/
def State.enterFalling (s : State) : State :=
  { s with power := { s.power with
    state := .falling, riseTimer := none, downPending := false, fallTimer := some s.config.fallTime } }

/-- Entry into OFF from FALLING: PWR raised, a pass started, and a kept wake request acted on if AUTO_WAKE is set
(R128, R129). -/
def State.enterOff (s : State) : State :=
  let wake := s.power.wakePending
  let s := ({ s with power := { s.power with
    state := .off, fallTimer := none, wakePending := false } }.raise .pwr).startPass
  if wake && s.bus.autoWake then s.enterRising else s

/-- Entry into FAULT: timers stopped, pending flags cleared, the reason taken, PWR_FAULT raised (R130). -/
def State.enterFault (s : State) (r : FaultReason) (incomplete : Bool) : State :=
  { s with power := { s.power with
      state := .fault, downPending := false, wakePending := false, riseTimer := none, fallTimer := none,
      faultReason := r, dischargeIncomplete := incomplete } }.raise .pwrFault

/-- A wake request from the Dispatcher, taken by state (R129). -/
def State.wakeRequest (s : State) : State :=
  match s.power.state with
  | .off => s.enterRising
  | .discharging | .falling => { s with power := { s.power with wakePending := true } }
  | .rising | .on | .fault => s

/-- DISCHARGING is entered at the moment down-pending is set and no slot is STARTING or DRIVING (R125). -/
def State.dischargeIfDue (s : State) : State :=
  if s.power.state = .on ∧ s.power.downPending ∧ !s.anyActive then s.enterDischarging else s

/-- The sequencer's PWR_EN output (R121). -/
def State.pwrEn (s : State) : Bool :=
  match s.power.state with
  | .rising | .on | .discharging => true
  | .off | .falling | .fault => false

/-- The part is idle: no slot STARTING or DRIVING and no entry WAITING (R126). -/
def State.partIdle (s : State) : Bool := !s.anyActive && !s.queue.any fun e => e.state == .waiting

/-- The idle count after a frame start taken in ON: one more, stopping at 255, where the part is idle, else 0 (R126). -/
def State.nextIdleCount (s : State) : Nat :=
  if s.partIdle then (if s.power.idleCount < 255 then s.power.idleCount + 1 else 255) else 0

/-- The Power Sequencer takes a frame start: it counts idle frames in ON (R126), and in DISCHARGING compares the
discharge count with DISCHARGE_FRAMES (R127). -/
def State.powerFrame (s : State) : State :=
  match s.power.state with
  | .on =>
    let s' := { s with power := { s.power with idleCount := s.nextIdleCount } }
    if s.config.idleFrames ≠ 0 ∧ s.config.idleFrames ≤ s.nextIdleCount then s'.enterDischarging else s'
  | .discharging => if s.config.dischargeFrames ≤ s.power.dischargeCount then s.enterFalling else s
  | .off | .rising | .falling | .fault => s

end Sys2Proof.Machine
end

