-- ==== Sys2Proof/Machine/Frames.lean ====
section
/-! DEFINITION. Frame starts, the frame plan, the scan and the drive port; the consequences that close every step
(`State.settle`); and the ways an access or an event reaches the part. -/

namespace Sys2Proof.Machine

/-! ### What the blocks do with a frame start -/

/-- The Temperature Unit counts a frame start toward TEMP_PERIOD; a periodic request starts a conversion in IDLE and
is dropped in CONVERTING (R135). -/
def State.temperatureFrame (s : State) : State :=
  if s.config.tempPeriod = 0 then { s with temp := { s.temp with periodCount := 0 } }
  else if s.config.tempPeriod ≤ s.temp.periodCount + 1 then
    { s with temp := { s.temp with periodCount := 0, converting := true } }
  else { s with temp := { s.temp with periodCount := s.temp.periodCount + 1 } }

/-- One slot's action at a frame start taken in ON (R98). -/
def Slot.advance (counter : Word) (sl : Slot) : Slot :=
  match sl.state with
  | .starting =>
    if sl.snapshotDone then
      { sl with state := .driving, frameIndex := 0, framesDriven := 1, startStamp := some counter, drivenAnything := true }
    else sl
  | .driving =>
    if sl.framesDriven < sl.frameTotal then
      { sl with frameIndex := sl.frameIndex + 1, framesDriven := sl.framesDriven + 1 }
    else { sl with state := .committing }
  | .free | .committing | .ending => sl

/-- A slot that this frame start moves to COMMITTING (R98). -/
def Slot.finishesDrive (sl : Slot) : Bool := sl.state == .driving && decide (sl.frameTotal ≤ sl.framesDriven)

/-- The plan entry of a slot (R99). -/
def State.planEntry (s : State) (n : Fin 16) : PlanEntry :=
  ⟨n, (s.slot n).rect, (s.slot n).mode, (s.slot n).band, (s.slot n).frameIndex⟩

/-- The frame plan: the slots that are DRIVING (R99). -/
def State.makePlan (s : State) : List PlanEntry :=
  (slotNumbers.filter fun n => (s.slot n).state == .driving).map s.planEntry

/-- The Region Engine takes a frame start, only in ON: every slot acts, commit jobs join in ascending slot number, and
the plan is handed over (R97 to R99); with down-pending set the last slot's leaving brings the discharge (R125). -/
def State.regionFrame (s : State) : State :=
  if s.power.state = .on then
    let commits := (slotNumbers.filter fun n => (s.slot n).finishesDrive).map fun n => Job.mk n .commit 0 none
    let s := { s with slots := s.slots.map (Slot.advance s.frame.counter), jobs := s.jobs ++ commits }
    { s with plan := s.makePlan }.dischargeIfDue
  else { s with plan := [] }

/-- The Scan Engine's decision at a frame start: an ON scan over a plan that holds a slot, a discharge scan in
DISCHARGING (counted by the sequencer, R127), else none (R112). -/
def State.scanFrame (s : State) : State :=
  let start (k : ScanKind) : Scan := ⟨k, s.config.sckDiv, s.config.panelW, s.config.panelH, 1, 1, [], [], none⟩
  match s.power.state with
  | .on => if s.plan.isEmpty then s else { s with scan := some (start .drive) }
  | .discharging =>
    { s with scan := some (start .discharge), power := { s.power with dischargeCount := s.power.dischargeCount + 1 } }
  | .off | .rising | .falling | .fault => s

/-- The delivery of a frame start: the counter rises, the next period begins, and the blocks take it, the Scan Engine
last (R110, R111). -/
def State.deliverFrame (s : State) (order : FrameOrder) : State :=
  let s := { s with frame := ⟨some s.config.frameTime, false, s.frame.counter + 1⟩ }
  let s := s.temperatureFrame
  let s := match order with
    | .regionFirst => s.regionFrame.powerFrame
    | .sequencerFirst => s.powerFrame.regionFrame
  s.scanFrame

/-- The end of a scan, whether it reached its end or was stopped: the port goes idle, and a held frame start is
delivered with FRAME_LATE (R113, R117). -/
def State.endScan (s : State) (order : FrameOrder) : State :=
  let s' := { s with scan := none }
  if s.frame.held then (s'.raise .frameLate).deliverFrame order else s'

/-- A frame start comes to its delivery: a scan in progress has reached its end first, and a frame start it held is
delivered late (R110, R117; log 8). -/
def State.frameStart (s : State) (order : FrameOrder) : State :=
  let s' := { s with scan := none }
  if s.scan.isSome && s.frame.held then (s'.raise .frameLate).deliverFrame order else s'.deliverFrame order

/-! ### Consequences that close a step -/

/-- The state of the sequencer in which a scan of this kind may go on (R118). -/
def ScanKind.home : ScanKind → PowerState
  | .drive => .on
  | .discharge => .discharging

/-- A scan stops at once when the sequencer has left the state it began in, and a frame start it held is delivered
(R118). The order of the blocks plays no part, since the sequencer is not ON. -/
def State.stopScanIfLeft (s : State) : State :=
  match s.scan with
  | none => s
  | some sc => if sc.kind.home = s.power.state then s else s.endScan .regionFirst

/-- What follows in the same step from what a step has done: the discharge that down-pending waits for, the stop of a
scan whose state has been left, the end of a pass that has nothing left to examine. -/
def State.settle (s : State) : State := s.dischargeIfDue.stopScanIfLeft.endPassIfDone

/-! ### How an access or an event reaches the part -/

/-- A bus access: taken while nRESET is high and no access is being stretched (R22, R163). -/
def State.access (s : State) (f : State → State) : State :=
  match s.phase with
  | .undefined => s.redraw
  | .inReset => s
  | .running => if s.bus.stretched.isSome then s else (f s).settle

/-- A read access: as any access, and while nRESET is low it returns 0 (R163). -/
def State.readAccess (s : State) (f : State → State) : State :=
  match s.phase with
  | .undefined => s.redraw
  | .inReset => { s with bus := { s.bus with busData := 0 } }
  | .running => if s.bus.stretched.isSome then s else (f s).settle

/-- An event of one of the part's own blocks: none comes about while nRESET is low (R162). -/
def State.event (s : State) (f : State → State) : State :=
  match s.phase with
  | .undefined => s.redraw
  | .inReset => s
  | .running => (f s).settle

/-- A command handed over: COMMAND takes the code, the command acts, and CMD_RESULT takes its result (R154). -/
def State.commanded (s : State) (code : Word) (f : State → State × Result) : State :=
  { (f { s with bus := { s.bus with command := code } }).1 with
    bus := { (f { s with bus := { s.bus with command := code } }).1.bus with
      cmdResult := (f { s with bus := { s.bus with command := code } }).2 } }

/-- A command: the access that hands it over (R154). -/
def State.command (s : State) (code : Word) (f : State → State × Result) : State :=
  s.access fun s => s.commanded code f

/-! ### The scan: reads, codes and the drive port (R113 to R115) -/

/-- The plan entry of a slot, if it is in the plan. -/
def State.planOf (s : State) (n : Fin 16) : Option PlanEntry := s.plan.find? fun p => p.slot == n

/-- The slot whose drive pixel (x, y) gets: the owner of its tile, if it is in the plan and the pixel lies in its
rectangle (R114, cases 1 and 2). -/
def State.driverOf (s : State) (x y : Nat) : Option PlanEntry :=
  match s.ownerAt x y with
  | none => none
  | some n =>
    match s.planOf n with
    | none => none
    | some p => if p.rect.contains x y then some p else none

/-- The code formed for pixel (x, y) from its two levels (R114). -/
def State.formPixel (s : State) (x y : Nat) (fromLevel toLevel : Level) : FormedPixel :=
  match s.driverOf x y with
  | none => ⟨.neutral, none⟩
  | some p => ⟨s.driveLookup p.mode p.band p.frameIndex fromLevel toLevel, some p.slot⟩

/-- The four pixels of quad q of row y formed from a quad of CURRENT and a quad of FROZEN. -/
def State.formQuad (s : State) (q y : Nat) (cur fro : Quad) : List FormedPixel :=
  [s.formPixel (4 * q) y cur[0] fro[0], s.formPixel (4 * q + 1) y cur[1] fro[1],
   s.formPixel (4 * q + 2) y cur[2] fro[2], s.formPixel (4 * q + 3) y cur[3] fro[3]]

/-- The quad has a pixel that some slot drives, so that the scan reads it. -/
def State.quadDriven (s : State) (q y : Nat) : Bool :=
  (s.driverOf (4 * q) y).isSome || (s.driverOf (4 * q + 1) y).isSome
    || (s.driverOf (4 * q + 2) y).isSome || (s.driverOf (4 * q + 3) y).isSome

/-- The row whose codes are formed during a line time: row 0 during line time 2, each next row during the line time
before its own (R113). -/
def Scan.readRow (sc : Scan) : Option Nat :=
  if sc.kind = .drive ∧ 2 ≤ sc.line ∧ sc.line ≤ sc.h + 1 then some (sc.line - 2) else none

/-- The next quad of the row, from quad `q` on and `fuel` quads at most, that the scan must read. -/
def State.nextDrivenQuad (s : State) (y : Nat) : Nat → Nat → Option Nat
  | 0, _ => none
  | fuel + 1, q => if s.quadDriven q y then some q else s.nextDrivenQuad y fuel (q + 1)

/-- The quad of the row being formed whose read the scan has waiting, if any: the leftmost one that some slot drives
and whose codes are still to be formed (log 18). -/
def State.scanQuad (s : State) (sc : Scan) : Option (Nat × Nat) :=
  match sc.readRow with
  | none => none
  | some y =>
    match s.nextDrivenQuad y (sc.w / 4 - sc.formed.length / 4) (sc.formed.length / 4) with
    | none => none
    | some q => some (y, q)

/-- One quad read of the Scan Engine: CURRENT first, then FROZEN, at which the quad's codes are formed; the quads
before it that no slot drives are formed NEUTRAL without a read (R7, R114). -/
def State.serveScan (s : State) (sc : Scan) (y q : Nat) : State :=
  match sc.fromRead with
  | some (q', cur) =>
    if q' = q then
      let undriven := List.replicate (4 * q - sc.formed.length) (FormedPixel.mk .neutral none)
      { s with scan := some { sc with
          formed := sc.formed ++ undriven ++ s.formQuad q y cur (s.readQuad .frozen q y), fromRead := none } }
    else { s with scan := some { sc with fromRead := some (q, s.readQuad .current q y) } }
  | none => { s with scan := some { sc with fromRead := some (q, s.readQuad .current q y) } }

/-- The rest of a row's codes, `fuel` quads from quad `q` on: every read of a line is served before its shifting
begins (R7). -/
def State.formRest (s : State) (y : Nat) : Nat → Nat → List FormedPixel
  | 0, _ => []
  | fuel + 1, q =>
    s.formQuad q y (s.readQuad .current q y) (s.readQuad .frozen q y) ++ s.formRest y fuel (q + 1)

/-- The row to be shifted in the next line time. -/
def State.nextRow (s : State) (sc : Scan) : List FormedPixel :=
  match sc.readRow with
  | none => []
  | some y => sc.formed ++ s.formRest y (sc.w / 4 - sc.formed.length / 4) (sc.formed.length / 4)

/-- Every scan read of the row that waits is served, CURRENT and FROZEN of a quad together, as at the end of its line:
what comes before the accesses of the lower agents that one step serves one after another (R6, R7). R7 leaves open when
in the line before it the scan presents a row's reads: the model holds all of them waiting from that line's start
(DESIGN CHOICE, safe, log 7). -/
def State.serveScanReads (s : State) : State :=
  match s.scan with
  | none => s
  | some sc =>
    match s.scanQuad sc with
    | none => s
    | some _ => { s with scan := some { sc with formed := s.nextRow sc, fromRead := none } }

/-- SCK periods of a line time (R113). -/
def Scan.linePeriods (sc : Scan) : Nat := sc.w / 8 + 2

/-- One SCK period of the scan passes (R113). The last period of line time h + 4 stays until SCAN_END. -/
def State.tickScan (s : State) (sc : Scan) : State :=
  if sc.period < sc.linePeriods then { s with scan := some { sc with period := sc.period + 1 } }
  else if sc.line < sc.h + 4 then
    { s with scan := some { sc with
        line := sc.line + 1, period := 1, shifting := s.nextRow sc, formed := [], fromRead := none } }
  else s

/-- What passes while no command or event waits: one SCK period of a scan in progress, else nothing (log 4). -/
def State.tick (s : State) : State :=
  match s.phase, s.scan with
  | .running, some sc => s.tickScan sc
  | _, _ => s

/-! ### Output pins of the drive port (Table 7.1, R113) -/

/-- Line times that shift a row. -/
def Scan.rowLine (sc : Scan) : Bool := decide (3 ≤ sc.line) && decide (sc.line ≤ sc.h + 2)

/-- OE: high during a scan. -/
def State.oe (s : State) : Bool := s.scan.isSome

/-- SCK runs during a scan, at CLKIN / SCK_DIV. -/
def State.sckRunning (s : State) : Bool := s.scan.isSome

/-- GST: high for the first SCK period of a scan. -/
def State.gst (s : State) : Bool :=
  match s.scan with
  | none => false
  | some sc => sc.line == 1 && sc.period == 1

/-- SLE: high for the SCK period after the last group of each row. -/
def State.sle (s : State) : Bool :=
  match s.scan with
  | none => false
  | some sc => sc.rowLine && sc.period == sc.w / 8 + 1

/-- GCK: high for the last SCK period of each row line time and each run-out line time. -/
def State.gck (s : State) : Bool :=
  match s.scan with
  | none => false
  | some sc => decide (3 ≤ sc.line) && sc.period == sc.w / 8 + 2

/-- The code of a formed pixel as it is shifted: NEUTRAL if its owner has left the plan (R114). -/
def State.shiftCode (s : State) (p : FormedPixel) : DriveCode :=
  match p.owner with
  | none => .neutral
  | some n => if (s.planOf n).isSome then p.code else .neutral

/-- The eight codes on SDO, the leftmost pixel of the group first (R113, R115). -/
def State.sdo (s : State) : List DriveCode :=
  match s.scan with
  | none => List.replicate 8 .neutral
  | some sc =>
    if sc.rowLine && decide (sc.period ≤ sc.w / 8) then
      match sc.kind with
      | .discharge => List.replicate 8 .ground
      | .drive =>
        (List.range 8).map fun j =>
          match sc.shifting[8 * (sc.period - 1) + j]? with
          | some p => s.shiftCode p
          | none => .neutral
    else List.replicate 8 .neutral

/-- SDO as the 16 bits of the port: pixel j of the group on bits 2j + 1 and 2j (R113). -/
def State.sdoWord (s : State) : Word :=
  pack (s.sdo.mapIdx fun j c => (2 * j, c.bits))

end Sys2Proof.Machine
end

