-- ==== Sys2Proof/Machine/Power.lean ====
section
/-! DEFINITION. The Power Sequencer's commands and events, and the frame starts (chapters 7 and 8). -/

namespace Sys2Proof.Machine

/-! ### Commands (Table 8.2) -/

/-- POWER_UP, by state. -/
def State.powerUp (s : State) : State × Result :=
  match s.power.state with
  | .off => (s.enterRising, .accepted)
  | .rising => (s, .accepted)
  | .on =>
    if s.power.downPending then ({ s with power := { s.power with downPending := false } }.startPass, .accepted)
    else (s, .accepted)
  | .discharging | .falling => (s, .busy)
  | .fault => (s, .badState)

def execPowerUp (s : State) : Answer := .next (s.command 0x0B State.powerUp)

/-- POWER_DOWN, by state: deferred in ON (R125; DISCHARGING follows in the same step where no slot is STARTING or
DRIVING, by `State.settle`). -/
def State.powerDown (s : State) : State × Result :=
  match s.power.state with
  | .off => (s, .accepted)
  | .rising => (s.enterFalling, .accepted)
  | .on => ({ s with power := { s.power with downPending := true } }, .accepted)
  | .discharging | .falling => ({ s with power := { s.power with wakePending := false } }, .accepted)
  | .fault => (s, .badState)

def execPowerDown (s : State) : Answer := .next (s.command 0x0C State.powerDown)

/-- CLEAR_FAULT: to OFF from FAULT with PGOOD low, which starts a pass and does not raise PWR (R130). -/
def State.clearFault (s : State) : State × Result :=
  if s.power.state = .fault ∧ s.pgood = false then
    ({ s with power := { s.power with state := .off } }.startPass, .accepted)
  else (s, .badState)

def execClearFault (s : State) : Answer := .next (s.command 0x0D State.clearFault)

/-! ### The PGOOD input (R121, R123, R124, R127) -/

/-- PGOOD rises: in RISING the sequencer enters ON. -/
def State.riseOfPgood (s : State) : State :=
  let s := { s with pgood := true }
  match s.power.state with
  | .rising => s.enterOn
  | .off | .on | .discharging | .falling | .fault => s

/-- PGOOD falls: in ON and in DISCHARGING a supply loss; the sequencer enters FAULT and the power loss notice ends the
STARTING and DRIVING slots in ascending number (R104, R124, R127). -/
def State.fallOfPgood (s : State) : State :=
  let s := { s with pgood := false }
  match s.power.state with
  | .on => (s.enterFault .supplyLost false).cutSlots .fault slotNumbers
  | .discharging => (s.enterFault .supplyLost true).cutSlots .fault slotNumbers
  | .off | .rising | .falling | .fault => s

/-- The PGOOD pin changes in any phase; the sequencer sees it while nRESET is high (R132, R162). -/
def State.pinEvent (s : State) (level : Bool) (f : State → State) : State :=
  match s.phase with
  | .undefined => { s.redraw with pgood := level }
  | .inReset => { s with pgood := level }
  | .running => (f s).settle

def execPgoodRise (s : State) : Answer := .next (s.pinEvent true State.riseOfPgood)

def execPgoodFall (s : State) : Answer := .next (s.pinEvent false State.fallOfPgood)

/-! ### Timers (R123, R128) -/

/-- The rise timer expires in RISING, where PGOOD has not been seen high: FAULT with RISE_TIMEOUT (R123). -/
def State.expireRise (s : State) : State :=
  if s.power.state = .rising then s.enterFault .riseTimeout false else s

def execRiseTimerExpiry (s : State) : Answer := .next (s.event State.expireRise)

/-- The fall timer expires in FALLING: OFF where PGOOD is low, FAULT with FALL_TIMEOUT where it is high (R128). -/
def State.expireFall (s : State) : State :=
  if s.power.state = .falling then
    if s.pgood then s.enterFault .fallTimeout false else s.enterOff
  else s

def execFallTimerExpiry (s : State) : Answer := .next (s.event State.expireFall)

/-! ### Frame starts (R110, R111, R113, R117) -/

/-- The frame timer expires: the frame start is delivered at once, or held while a scan is in progress; the timer runs
no period while one is held (R110, R117). -/
def State.expireFrameTimer (s : State) (order : FrameOrder) : State :=
  match s.frame.period with
  | none => s
  | some _ =>
    if s.scan.isSome then { s with frame := { s.frame with period := none, held := true } }
    else s.deliverFrame order

def execFrameTimerExpiry (order : FrameOrder) (s : State) : Answer :=
  .next (s.event fun s => s.expireFrameTimer order)

def execFrameStart (order : FrameOrder) (s : State) : Answer := .next (s.event fun s => s.frameStart order)

/-- A scan reaches its end (R113). -/
def State.scanEnds (s : State) (order : FrameOrder) : State := if s.scan.isSome then s.endScan order else s

def execScanEnd (order : FrameOrder) (s : State) : Answer := .next (s.event fun s => s.scanEnds order)

/-- The next frame start finds the part idle in ON and brings the idle count to a non-zero IDLE_FRAMES (R126). -/
def State.idleReaches (s : State) (order : FrameOrder) : Bool :=
  let s := match order with
    | .regionFirst => { s with frame := { s.frame with counter := s.frame.counter + 1 } }.regionFrame
    | .sequencerFirst => s
  s.power.state == .on && s.partIdle && s.config.idleFrames != 0
    && decide (s.config.idleFrames ≤ s.nextIdleCount)

/-- The frame start at which the idle count reaches IDLE_FRAMES, where the next one is that (R126; log 9). -/
def State.reachIdle (s : State) (order : FrameOrder) : State :=
  if s.idleReaches order then s.frameStart order else s

def execIdleCountReached (order : FrameOrder) (s : State) : Answer := .next (s.event fun s => s.reachIdle order)

/-- The frame start at which DISCHARGING finds the discharge count at DISCHARGE_FRAMES, where the next one is that
(R127; log 9). -/
def State.reachDischarge (s : State) : State :=
  if s.power.state = .discharging ∧ s.config.dischargeFrames ≤ s.power.dischargeCount then s.frameStart .regionFirst
  else s

def execDischargeCountReached (s : State) : Answer := .next (s.event State.reachDischarge)

/-- The frame start at which the period count reaches TEMP_PERIOD, where the next one is that (R135; log 9). -/
def State.reachPeriod (s : State) (order : FrameOrder) : State :=
  if s.config.tempPeriod ≠ 0 ∧ s.config.tempPeriod ≤ s.temp.periodCount + 1 then s.frameStart order else s

def execPeriodicConversionRequest (order : FrameOrder) (s : State) : Answer :=
  .next (s.event fun s => s.reachPeriod order)

end Sys2Proof.Machine
end

