-- ==== Sys2Proof/Machine/Requests.lean ====
section
/-! DEFINITION. The Request Queue, the Dispatcher's examination and the Completion Queue: SUBMIT, CANCEL, CANCEL_ALL,
POP and ENTRY_EXAMINATION. -/

namespace Sys2Proof.Machine

/-! ### Acceptance (R61 to R63) -/

/-- The SUBMIT checks in the order of Table 4.2; a presentation meets the same (R30). -/
def State.checkRequest (s : State) (q : Request) : Result :=
  if q.tag = 0 then .badTag
  else if q.afterTag = q.tag then .badTag
  else if !q.rect.legal s.config.panelW s.config.panelH then .badRect
  else match modeNumber q.mode with
    | none => .badMode
    | some m =>
      if (s.mode m).state ≠ .ready then .modeNotReady
      else if s.live q.tag then .tagInUse
      else if Config.queuePlaces ≤ s.queue.length then .queueFull
      else .accepted

/-- The entry an accepted request becomes: WAITING, with its after-tag recorded only if it names a live request
(R62, R63). -/
def State.newEntry (s : State) (q : Request) (m : Fin 8) : Entry where
  tag := q.tag
  rect := q.rect
  mode := m
  notify := q.notify
  noPromote := q.noPromote
  afterTag := if s.live q.afterTag then q.afterTag else 0
  state := .waiting
  due := false

/-- An accepted request joins the queue at the end, which starts a pass (R62). -/
def State.acceptRequest (s : State) (q : Request) : State :=
  match modeNumber q.mode with
  | none => s
  | some m => { s with queue := s.queue ++ [s.newEntry q m] }.startPass

/-- A request offered to the queue: the checks and the acceptance are one access (R61). -/
def State.offerRequest (s : State) (q : Request) : State × Result :=
  match s.checkRequest q with
  | .accepted => (s.acceptRequest q, .accepted)
  | r => (s, r)

/-- SUBMIT (R61). -/
def State.submit (s : State) : State × Result := s.offerRequest s.argRequest

def execSubmit (s : State) : Answer := .next (s.command 0x01 State.submit)

/-! ### Cancelling (R67 to R70) -/

/-- The entry at position i is withdrawn and offers its record, and a pass is started (R65, R66). -/
def State.withdraw (s : State) (i : Nat) (t : Tag) : State :=
  ((s.setEntryState i .withdrawn).startPass).offer (.entry t)

/-- CANCEL of a tag, answered by where the lookup finds it (Table 4.5). -/
def State.cancelTag (s : State) (t : Tag) : State × Result :=
  if t = 0 then (s, .notFound)
  else match s.entryIndex t with
    | some i =>
      match s.queue[i]? with
      | some e => if e.state = .waiting then (s.withdraw i t, .accepted) else (s, .tooLate)
      | none => (s, .notFound)
    | none =>
      match s.slotOfTag t with
      | some n => if (s.slot n).active then (s.cutSlot n .cancelled, .accepted) else (s, .tooLate)
      | none => (s, .notFound)

/-- CANCEL (R67). -/
def State.cancel (s : State) : State × Result := s.cancelTag s.argTag

def execCancel (s : State) : Answer := .next (s.command 0x02 State.cancel)

/-- The tags of the WAITING entries, oldest first. -/
def State.waitingTags (s : State) : List Tag :=
  (s.queue.filter fun e => e.state == .waiting).map Entry.tag

/-- Every WAITING entry becomes WITHDRAWN. -/
def State.withdrawAll (s : State) : State :=
  { s with queue := s.queue.map fun e => if e.state = .waiting then { e with state := .withdrawn } else e }

/-- CANCEL_ALL: the WAITING entries first, oldest first, then the STARTING and DRIVING slots in ascending number; one
pass if an entry became WITHDRAWN (R70). -/
def State.cancelAll (s : State) : State × Result :=
  let tags := s.waitingTags
  let s' := (s.withdrawAll.offerEntries tags).cutSlots .cancelled slotNumbers
  (if tags.isEmpty then s' else s'.startPass, .accepted)

def execCancelAll (s : State) : Answer := .next (s.command 0x03 State.cancelAll)

/-! ### Reading completion records (R148) -/

/-- POP: the head record leaves, and the oldest waiting poster's post is taken into the freed place (R148). -/
def State.popRecord (s : State) : State × Result :=
  match s.completions with
  | [] => (s, .empty)
  | _ :: rest =>
    let s := { s with completions := rest }
    match s.posters with
    | [] => (s, .accepted)
    | p :: ps => ({ s with posters := ps }.takePost p, .accepted)

def execPop (s : State) : Answer := .next (s.command 0x04 State.popRecord)

/-! ### The examination of one entry (R77 to R89) -/

/-- A WAITING entry ahead of position i in the list has a claim set that intersects the rectangle's (R78, R79). -/
def State.blockedAhead (s : State) (i : Nat) (r : Rect) : Bool :=
  (s.queue.take i).any fun e => e.state == .waiting && e.rect.meets r

/-- The current band, if it is a band from 0 to 7. -/
def State.knownBand (s : State) : Option (Fin 8) :=
  match s.temp.current with
  | some (.band b) => some b
  | _ => none

/-- Some waiting condition of R78 other than those of the Power Sequencer holds for the entry at position i. -/
def State.hindered (s : State) (i : Nat) (e : Entry) : Bool :=
  e.afterTag != 0 || s.knownBand.isNone || s.freeSlot.isNone
    || s.anyClaimed e.rect (fun t => t.owner.isSome) || s.blockedAhead i e.rect

/-- The Power Sequencer lets requests start: ON with down-pending clear (R78). -/
def State.powerReady (s : State) : Bool := s.power.state == .on && !s.power.downPending

/-- An entry becomes REJECTING and offers its record (R86). -/
def State.reject (s : State) (i : Nat) (e : Entry) (r : RejectReason) : State :=
  (s.setEntryState i (.rejecting r)).offer (.entry e.tag)

/-- The tiles of the claim set that call for promotion in a mode without FLASH (R82). -/
def State.needsPromotion (s : State) (e : Entry) : Bool :=
  !(s.mode e.mode).flash &&
    s.anyClaimed e.rect fun t =>
      !t.known || (s.config.partialLimit != 0 && decide (s.config.partialLimit ≤ t.count))

/-- The clean mode can take a promotion in band b (R84). -/
def State.cleanUsable (s : State) (b : Fin 8) : Bool :=
  (s.mode s.config.cleanMode).state == .ready && (s.mode s.config.cleanMode).flash
    && (s.mode s.config.cleanMode).hasBand b

/-- The slot as a start fills it (R88). -/
def State.startedSlot (s : State) (e : Entry) (m b : Fin 8) (r : Rect) (promoted widened : Bool) : Slot where
  state := .starting
  tag := e.tag
  rect := r
  mode := m
  band := b
  frameTotal := ((s.mode m).frameCounts[b]).toNat
  frameIndex := 0
  framesDriven := 0
  startStamp := none
  snapshotDone := false
  outcome := none
  promoted := promoted
  widened := widened
  notify := e.notify
  drivenAnything := false

/-- The start of the entry at position i in slot n: the slot is filled, the tiles are claimed, the snapshot job is
asked for and the entry is removed (R87 to R89). -/
def State.startRegion (s : State) (i : Nat) (n : Fin 16) (sl : Slot) : State :=
  (({ (s.setSlot n sl) with jobs := s.jobs ++ [Job.mk n .snapshot 0 none] }).claimTiles n sl.rect).removeEntry i

/-- The decision for an entry that meets no waiting condition: the band test, the promotion test, and a rejection or a
start (R81 to R87). -/
def State.decideEntry (s : State) (i : Nat) (e : Entry) (b : Fin 8) (n : Fin 16) : State :=
  if !(s.mode e.mode).hasBand b then s.reject i e .bandUnsupported
  else if s.needsPromotion e then
    if e.noPromote then s.reject i e .needsClean
    else if !s.cleanUsable b then s.reject i e .cleanUnavailable
    else s.startRegion i n
      (s.startedSlot e s.config.cleanMode b e.rect.union true (decide (e.rect.union ≠ e.rect)))
  else s.startRegion i n (s.startedSlot e e.mode b e.rect false false)

/-- The examination of the entry at position i, which the pass has now reached (R77): held, with a wake request where
the sequencer is its one hindrance (R78, R80), or decided. -/
def State.examine (s : State) (i : Nat) (e : Entry) : State :=
  let s := { s with queue := s.queue.modify i fun e => { e with due := false } }
  if s.hindered i e then s
  else if !s.powerReady then
    if s.bus.autoWake && s.power.state != .on then s.wakeRequest else s
  else match s.knownBand, s.freeSlot with
    | some b, some n => s.decideEntry i e b n
    | _, _ => s

/-- The running pass examines the next entry it was given that is still WAITING (R76). -/
def State.examineNext (s : State) : State :=
  if s.dispatcher.passInProgress then
    match s.queue.findIdx? Entry.toExamine with
    | none => s
    | some i =>
      match s.queue[i]? with
      | none => s
      | some e => s.examine i e
  else s

def execEntryExamination (s : State) : Answer := .next (s.event State.examineNext)

end Sys2Proof.Machine
end

