-- ==== Sys2Proof/Machine/Loading.lean ====
section
/-! DEFINITION. The Load Engine (chapter 2): windows, the stream port, filling, completion and presentations. -/

namespace Sys2Proof.Machine

/-! ### Windows (R18 to R21, R27) -/

/-- The pixel at stream position k of a window (Table 2.2): orientations 0 to 3 walk rows, 4 to 7 columns; the last bit
reverses the direction along a line, the bit before it the order of the lines. -/
def streamPixel (r : Rect) (o : Fin 8) (k : Nat) : Nat × Nat :=
  let len := if o.val < 4 then r.w else r.h
  let lines := if o.val < 4 then r.h else r.w
  let along := if o.val % 2 = 0 then k % len else len - 1 - k % len
  let line := if o.val % 4 < 2 then k / len else lines - 1 - k / len
  if o.val < 4 then (r.x + along, r.y + line) else (r.x + line, r.y + along)

/-- Words of a stream window: ceil(w * h / 4) (R20). -/
def Rect.streamWords (r : Rect) : Nat := (r.w * r.h + 3) / 4

/-- The window record of a stream window just opened: FIFO empty, close requested clear (R18, R20, R21). R18 gives a fill
level for FILL alone and the template for auto-submit set: a stream window records fill level 0, and every window the
template words as they stand (DESIGN CHOICE, log 19). -/
def LoadEngine.openStream (l : LoadEngine) (st : LoadState) (d : Direction) (p : Plane) (r : Rect) (o : Fin 8)
    (auto : Bool) (t : Template) : LoadEngine :=
  { l with
    state := st, direction := d, plane := p, rect := r, orientation := o, streamCount := r.streamWords,
    remaining := r.w * r.h, closeRequested := false, autoSubmit := auto, template := t, fillLevel := 0,
    fifo := [], wordPos := 0, assembled := [], retriesOwed := 0 }

/-- LOAD_OPEN (R21). -/
def State.loadOpen (s : State) : State × Result :=
  if s.load.state ≠ .closed then (s, .busy)
  else if !s.argRect.legal s.config.panelW s.config.panelH then (s, .badRect)
  else match s.argOrientation, s.argPlane with
    | some o, some p =>
      if bitOf (s.arg 4) 0 then
        ({ s with load := s.load.openStream .reading .read p s.argRect o false s.argTemplate }, .accepted)
      else if p = .target then
        ({ s with load := s.load.openStream .writing .write p s.argRect o (bitOf (s.arg 4) 7) s.argTemplate }, .accepted)
      else (s, .badArg)
    | _, _ => (s, .badArg)

def execLoadOpen (s : State) : Answer := .next (s.command 0x05 State.loadOpen)

/-- FILL (R27). -/
def State.startFill (s : State) : State × Result :=
  if s.load.state ≠ .closed then (s, .busy)
  else if !s.argRect.legal s.config.panelW s.config.panelH then (s, .badRect)
  else
    ({ s with load := { s.load with
        state := .filling, direction := .fill, plane := .target, rect := s.argRect, orientation := 0, streamCount := 0,
        remaining := s.argRect.w * s.argRect.h, closeRequested := false, autoSubmit := bitOf (s.arg 4) 7,
        template := s.argTemplate, fillLevel := fieldBits (s.arg 4) 0 4, fifo := [], wordPos := 0, assembled := [],
        retriesOwed := 0 } }, .accepted)

def execFill (s : State) : Answer := .next (s.command 0x07 State.startFill)

/-! ### Endings (R29 to R32, R35) -/

/-- The engine CLOSED with its record cleared; the STATUS fields stay. -/
def LoadEngine.closed (l : LoadEngine) : LoadEngine :=
  { LoadEngine.reset with endReason := l.endReason, errReason := l.errReason, loadResult := l.loadResult }

/-- The engine goes to CLOSED and raises LOAD_END with a reason (R35). -/
def State.endWindow (s : State) (r : EndReason) : State :=
  { s with load := { s.load.closed with endReason := r } }.raise .loadEnd

/-- A stream access that is an overrun raises LOAD_ERR (R24, R26). -/
def State.overrun (s : State) : State :=
  { s with load := { s.load with errReason := .overrun } }.raise .loadErr

/-- The request of the window and its template, with after-tag 0 (R30). -/
def LoadEngine.request (l : LoadEngine) : Request :=
  ⟨l.template.tag, 0, l.rect, l.template.mode, l.template.notify, l.template.noPromote⟩

/-- A presentation: the queue's checks and, by their result, the engine's next state (R30). -/
def State.present (s : State) : State :=
  match s.checkRequest s.load.request with
  | .accepted => (s.acceptRequest s.load.request).endWindow .complete
  | .queueFull => { s with load := { s.load with state := .autoPending } }
  | r => { s with load := { s.load.closed with errReason := .autoRefused, loadResult := r } }.raise .loadErr

/-- The completion path of a drained window or a finished fill (R29). -/
def State.completeWindow (s : State) : State :=
  if s.load.autoSubmit then s.present else s.endWindow .complete

/-- One of the presentations that QROOMs have brought is made (R31). -/
def State.presentAgain (s : State) : State :=
  if s.load.state = .autoPending ∧ 0 < s.load.retriesOwed then
    { s with load := { s.load with retriesOwed := s.load.retriesOwed - 1 } }.present
  else s

def execAutoPresentationRetry (s : State) : Answer := .next (s.event State.presentAgain)

/-- LOAD_CLOSE, by the engine's state (R32). -/
def State.loadClose (s : State) : State × Result :=
  match s.load.state with
  | .writing =>
    if s.load.fifo.isEmpty then (s.endWindow .short, .accepted)
    else ({ s with load := { s.load with state := .draining, closeRequested := true, streamCount := 0 } }, .accepted)
  | .draining | .filling => (s, .busy)
  | .reading => (s.endWindow .short, .accepted)
  | .autoPending => (s.endWindow .discarded, .accepted)
  | .closed => (s, .badState)

def execLoadClose (s : State) : Answer := .next (s.command 0x06 State.loadClose)

/-! ### Plane accesses of the engine (R23, R25, R28) -/

/-- The first stream position of the head word, or of the word being prefetched, or the next pixel of a fill. -/
def LoadEngine.position (l : LoadEngine) : Nat := l.rect.w * l.rect.h - l.remaining

/-- Pixels the present word carries: four, or fewer in the last word (R20). -/
def LoadEngine.wordPixels (l : LoadEngine) : Nat := if l.remaining < 4 then l.remaining else 4

/-- Two pixels lie in the same quad (R1). -/
def sameQuad (a b : Nat × Nat) : Bool := a.2 == b.2 && a.1 / 4 == b.1 / 4

/-- The pixels one access carries: from stream position `k` on, at most `n`, those in the quad of the first. -/
def LoadEngine.run (l : LoadEngine) (k n : Nat) : List (Nat × Nat) :=
  ((List.range' k n).map (streamPixel l.rect l.orientation)).takeWhile
    (sameQuad (streamPixel l.rect l.orientation k))

/-- The nibble of a stream word that carries pixel i of the word (R20). -/
def nibble (w : Word) (i : Nat) : Level := fieldBits w (4 * i) 4

/-- Levels written at pixels of TARGET. -/
def State.writeTarget (s : State) : List ((Nat × Nat) × Level) → State
  | [] => s
  | (p, l) :: t => (s.writePixel .target p.1 p.2 l).writeTarget t

/-- One quad write of a stream window: the next pixels of the head word that share a quad; the word leaves the FIFO
with its last pixel (R23). -/
def State.streamWrite (s : State) (head : Word) (rest : List Word) : State :=
  let run := s.load.run (s.load.position + s.load.wordPos) (s.load.wordPixels - s.load.wordPos)
  let levels := (List.range' s.load.wordPos run.length).map (nibble head)
  let done := s.load.wordPos + run.length
  let s := s.writeTarget (run.zip levels)
  if s.load.wordPixels ≤ done then
    { s with load := { s.load with fifo := rest, wordPos := 0, remaining := s.load.remaining - s.load.wordPixels } }
  else { s with load := { s.load with wordPos := done } }

/-- A stream word packed from its pixels, the first in the low four bits and the missing ones 0 (R20). -/
def packLevels (ls : List Level) : Word := pack (ls.mapIdx fun i l => (4 * i, l.toNat))

/-- One quad read of a read window: the next pixels of the word being prefetched that share a quad; a whole word joins
the FIFO (R25). -/
def State.prefetchRead (s : State) : State :=
  let run := s.load.run (s.load.position + s.load.assembled.length) (s.load.wordPixels - s.load.assembled.length)
  let got := s.load.assembled ++ run.map fun p => s.pixel s.load.plane p.1 p.2
  if s.load.wordPixels ≤ got.length then
    { s with load := { s.load with
        fifo := s.load.fifo ++ [packLevels got], assembled := [], remaining := s.load.remaining - s.load.wordPixels } }
  else { s with load := { s.load with assembled := got } }

/-- One quad write of a fill: the next pixels of the row that share a quad (R28). -/
def State.fillWrite (s : State) : State :=
  let run := s.load.run s.load.position s.load.wordPixels
  let s' := s.writeTarget (run.map fun p => (p, s.load.fillLevel))
  { s' with load := { s'.load with remaining := s.load.remaining - run.length } }

/-- The engine has an access waiting at the arbiter (Table 2.1). -/
def LoadEngine.waiting (l : LoadEngine) : Bool :=
  match l.state with
  | .writing | .draining => !l.fifo.isEmpty && decide (0 < l.remaining)
  | .reading => decide (0 < l.remaining) && decide (l.fifo.length < Config.fifoPlaces)
  | .filling => decide (0 < l.remaining)
  | .closed | .autoPending => false

/-- The engine's waiting access served, if it has one. -/
def State.loadAccess (s : State) : State :=
  if s.load.waiting then
    match s.load.state with
    | .writing | .draining =>
      match s.load.fifo with
      | head :: rest => s.streamWrite head rest
      | [] => s
    | .reading => s.prefetchRead
    | .filling => s.fillWrite
    | .closed | .autoPending => s
  else s

/-- The engine's accesses served one after another, `n` at most, until a test holds. -/
def State.loadAccessesUntil (stop : LoadEngine → Bool) : Nat → State → State
  | 0, s => s
  | n + 1, s => if stop s.load then s else State.loadAccessesUntil stop n s.loadAccess

/-- The accesses that an ending of the engine's still needs, at most `n` of them, served one after another in its step
(DESIGN CHOICE, safe for the final contents, log 7). The engine's accesses are served only when no scan read is waiting
and the memory job list is empty (R6), so the scan reads of the row that wait are served before them, and none is served
while the list holds a job. -/
def State.serveLoad (s : State) (stop : LoadEngine → Bool) (n : Nat) : State :=
  if stop s.load then s
  else if s.jobs.isEmpty then State.loadAccessesUntil stop n s.serveScanReads
  else s

/-! ### The stream port (R22, R24, R26) -/

/-- A stream word received: it joins the tail of the FIFO, and the last one ends WRITING (R22). -/
def State.receiveWord (s : State) (w : Word) : State :=
  { s with load := { s.load with
      fifo := s.load.fifo ++ [w], streamCount := s.load.streamCount - 1,
      state := if s.load.streamCount - 1 = 0 then .draining else s.load.state } }

/-- A write to LOAD_DATA: received, stretched by a full FIFO, or an overrun (R22, R24). -/
def State.writeStream (s : State) (w : Word) : State :=
  if s.load.state = .writing then
    if s.load.fifo.length < Config.fifoPlaces then s.receiveWord w
    else { s with bus := { s.bus with stretched := some (.write w) } }
  else s.overrun

def execLoadDataWrite (_port : StreamPort) (w : Word) (s : State) : Answer := .next (s.access fun s => s.writeStream w)

/-- The head word delivered on D; the last one of the stream closes the window (R26). -/
def State.deliverWord (s : State) (head : Word) (rest : List Word) : State :=
  let s := { s with
    bus := { s.bus with busData := head },
    load := { s.load with fifo := rest, streamCount := s.load.streamCount - 1 } }
  if s.load.streamCount = 0 then s.endWindow .complete else s

/-- A read of LOAD_DATA: delivered, stretched by an empty FIFO, or an overrun that returns 0 (R26). -/
def State.readStream (s : State) : State :=
  if s.load.state = .reading then
    match s.load.fifo with
    | head :: rest => s.deliverWord head rest
    | [] => { s with bus := { s.bus with stretched := some .read } }
  else { s with bus := { s.bus with busData := 0 } }.overrun

def execLoadDataRead (_port : StreamPort) (s : State) : Answer := .next (s.readAccess State.readStream)

/-- A stretched write ends: a word has been freed at the head, and the stretched word joins (R22, R23). -/
def State.endStretchedWrite (s : State) : State :=
  match s.bus.stretched with
  | some (.write w) =>
    let s' := s.serveLoad (fun l => decide (l.fifo.length < Config.fifoPlaces)) 4
    if s'.load.fifo.length < Config.fifoPlaces then
      { s' with bus := { s'.bus with stretched := none } }.receiveWord w
    else s
  | _ => s

def execStretchedWriteComplete (s : State) : Answer := .next (s.event State.endStretchedWrite)

/-- A stretched read ends: prefetch has placed a word, which is delivered (R26). -/
def State.endStretchedRead (s : State) : State :=
  match s.bus.stretched with
  | some .read =>
    let s' := s.serveLoad (fun l => !l.fifo.isEmpty) 4
    match s'.load.fifo with
    | head :: rest => { s' with bus := { s'.bus with stretched := none } }.deliverWord head rest
    | [] => s
  | _ => s

def execStretchedReadComplete (s : State) : Answer := .next (s.event State.endStretchedRead)

/-! ### Ends of drains and fills (R23, R28) -/

/-- The drain ends: the FIFO has been written to TARGET; then the short ending or the completion path (R23, R32). -/
def State.endDrain (s : State) : State :=
  if s.load.state = .draining then
    let s' := s.serveLoad (fun l => l.fifo.isEmpty) (4 * s.load.fifo.length)
    if s'.load.fifo.isEmpty then
      if s'.load.closeRequested then s'.endWindow .short else s'.completeWindow
    else s
  else s

def execDrainEnd (s : State) : Answer := .next (s.event State.endDrain)

/-- The fill ends: every pixel has been written; then the completion path (R28). -/
def State.endFill (s : State) : State :=
  if s.load.state = .filling then
    let s' := s.serveLoad (fun l => l.remaining == 0) s.load.remaining
    if s'.load.remaining = 0 then s'.completeWindow else s
  else s

def execFillEnd (s : State) : Answer := .next (s.event State.endFill)

/-- DREQ (R33). -/
def State.dreq (s : State) : Bool :=
  s.bus.dreqEnable &&
    match s.load.state with
    | .writing => decide (0 < s.load.streamCount) && decide (s.load.fifo.length < Config.fifoPlaces)
    | .reading => !s.load.fifo.isEmpty
    | .closed | .draining | .filling | .autoPending => false

/-- nWAIT: low while a LOAD_DATA access is stretched (R22, R26); `true` is high. -/
def State.nWait (s : State) : Bool := s.bus.stretched.isNone

end Sys2Proof.Machine
end

