-- ==== Sys2Proof/Machine/Regions.lean ====
section
/-! DEFINITION. The Region Engine's memory jobs, the Memory Arbiter and TILE_SET (chapters 1 and 6). -/

namespace Sys2Proof.Machine

/-! ### Memory jobs (R94, R95, R100) -/

/-- Quads a row of the rectangle touches (R95). -/
def Rect.quadsPerRow (r : Rect) : Nat := (r.x + r.w - 1) / 4 - r.x / 4 + 1

/-- Quads a job over the rectangle takes. -/
def Rect.quads (r : Rect) : Nat := r.quadsPerRow * r.h

/-- The plane a job reads and the plane it writes. -/
def JobKind.source : JobKind → Plane
  | .snapshot => .target
  | .commit => .frozen

def JobKind.dest : JobKind → Plane
  | .snapshot => .frozen
  | .commit => .current

/-- The level a job writes for a level it has read: a snapshot rounds into the slot's mode's level set (R95). -/
def State.jobLevel (s : State) (k : JobKind) (m : Fin 8) (l : Level) : Level :=
  match k with
  | .snapshot => roundLevel (s.mode m).levelCode l
  | .commit => l

/-- One access of the running job: the read of a quad, or the write of the quad it has read; none once its last quad
has been written (R95, R100). -/
def State.jobAccess (s : State) : State :=
  match s.jobs with
  | [] => s
  | j :: rest =>
    let r := (s.slot j.slot).rect
    if j.quadsDone < r.quads then
      let q := r.x / 4 + j.quadsDone % r.quadsPerRow
      let y := r.y + j.quadsDone / r.quadsPerRow
      match j.held with
      | none => { s with jobs := { j with held := some (s.readQuad j.kind.source q y) } :: rest }
      | some v =>
        let levels := (quadPixels q r.x (r.x + r.w) v).map fun c => (c.1, s.jobLevel j.kind (s.slot j.slot).mode c.2)
        { s.writePixels j.kind.dest y levels with
          jobs := { j with quadsDone := j.quadsDone + 1, held := none } :: rest }
    else s

/-- Accesses of the running job served one after another. -/
def State.jobAccesses : Nat → State → State
  | 0, s => s
  | n + 1, s => State.jobAccesses n s.jobAccess

/-- Every access the running job has still to make, served one after another in the step of its end (DESIGN CHOICE,
safe for the final contents, log 7), after the scan reads of the row that wait (R6). -/
def State.serveJob (s : State) : State :=
  match s.jobs with
  | [] => s
  | j :: _ =>
    if j.quadsDone < (s.slot j.slot).rect.quads then
      State.jobAccesses (2 * ((s.slot j.slot).rect.quads - j.quadsDone)) s.serveScanReads
    else s

/-- A snapshot job ends: it leaves the list and the slot's snapshot done is set (R95). -/
def State.endSnapshot (s : State) : State :=
  match s.jobs with
  | [] => s
  | j :: rest =>
    if j.kind = .snapshot then
      let s := s.serveJob
      { s.setSlot j.slot { s.slot j.slot with snapshotDone := true } with jobs := rest }
    else s

def execSnapshotEnd (s : State) : Answer := .next (s.event State.endSnapshot)

/-- What a commit does to a tile of the claim set (R101): in a FLASH mode a fully covered tile becomes KNOWN, in
another mode every tile wears by one. -/
def commitTile (flash : Bool) (r : Rect) (w n : Nat) (t : Tile) : Tile :=
  if flash then (if r.covers w n then t.makeKnown else t) else t.wear

/-- A commit job ends: it leaves the list, the tile records are updated, and the slot enters ENDING with DONE (R101). -/
def State.endCommit (s : State) : State :=
  match s.jobs with
  | [] => s
  | j :: rest =>
    if j.kind = .commit then
      let s := s.serveJob
      let s := { s with jobs := rest }
      let sl := s.slot j.slot
      (s.updateClaimed sl.rect (commitTile (s.mode sl.mode).flash sl.rect s.config.panelW)).endSlot j.slot .done
    else s

def execCommitEnd (s : State) : Answer := .next (s.event State.endCommit)

/-! ### The Memory Arbiter (R6, R7) -/

/-- One access of the Region Engine, or, while the job list is empty, of the Load Engine (Table 1.2). -/
def State.lowerAccess (s : State) : State := if s.jobs.isEmpty then s.loadAccess else s.jobAccess

/-- The port serves the waiting access of highest priority (R6). -/
def State.quadAccess (s : State) : State :=
  match s.scan with
  | none => s.lowerAccess
  | some sc =>
    match s.scanQuad sc with
    | none => s.lowerAccess
    | some (y, q) => s.serveScan sc y q

def execQuadAccess (s : State) : Answer := .next (s.event State.quadAccess)

/-! ### TILE_SET (R15) -/

/-- TILE_SET: the claim set's records take the given knowledge, unless one is owned; a change of some record starts a
pass (R15). -/
def State.tileSet (s : State) : State × Result :=
  if !s.argRect.legal s.config.panelW s.config.panelH then (s, .badRect)
  else if s.anyClaimed s.argRect fun t => t.owner.isSome then (s, .busy)
  else
    let s' := s.updateClaimed s.argRect fun _ t => if bitOf (s.arg 4) 0 then t.makeKnown else t.makeUnknown
    (if s'.tiles = s.tiles then s' else s'.startPass, .accepted)

def execTileSet (s : State) : Answer := .next (s.command 0x08 State.tileSet)

end Sys2Proof.Machine
end

