-- ==== Sys2Proof/Machine/Temperature.lean ====
section
/-! DEFINITION. The Temperature Unit: SAMPLE_TEMP and the end of a conversion (chapter 9). -/

namespace Sys2Proof.Machine

/-- SAMPLE_TEMP (R136). -/
def State.sampleTemp (s : State) : State × Result :=
  if s.temp.converting then (s, .busy)
  else ({ s with temp := { s.temp with converting := true } }, .accepted)

def execSampleTemp (s : State) : Answer := .next (s.command 0x0E State.sampleTemp)

/-- The bounds U0 to U(n - 1) of the band table, n being the band count. -/
def TempUnit.bounds (t : TempUnit) : List Nat := (t.upper.toList.take t.bandCount.toNat).map BitVec.toNat

/-- A list of bounds is strictly ascending from above a limit. -/
def ascendsFrom : Nat → List Nat → Bool
  | _, [] => true
  | lo, u :: us => decide (lo < u) && ascendsFrom u us

/-- The band table is well formed: band count 1 to 8, bounds from 1 to 1024 and strictly ascending, U0 above LOW_LIMIT
(R138). -/
def TempUnit.tableGood (t : TempUnit) : Bool :=
  decide (1 ≤ t.bandCount.toNat) && decide (t.bandCount.toNat ≤ 8)
    && t.bounds.all (fun u => decide (1 ≤ u) && decide (u ≤ 1024))
    && ascendsFrom t.lowLimit.toNat t.bounds

/-- The lowest band whose upper bound is above the code, if there is one. -/
def TempUnit.bandOf (t : TempUnit) (code : Nat) : Option (Fin 8) :=
  modeNumbers.find? fun b => decide (b.val < t.bandCount.toNat) && decide (code < (t.upper[b]).toNat)

/-- The classification of a code against the band table, with its class reason (R138). -/
def TempUnit.classify (t : TempUnit) (code : Nat) : TempClass × ClassReason :=
  if !t.tableGood then (.out, .bandTableBad)
  else if code < t.lowLimit.toNat then (.out, .below)
  else match t.bandOf code with
    | some b => (.band b, .none)
    | none => (.out, .above)

/-- The end of a conversion: the code is stored and classified, and the classification is applied to the current band
(R139); a change of the current band raises TEMP and starts a pass (R140). The OUT of a malformed table is applied by
R139's table like any other classification, also where R140 tells the course of such conversions otherwise (DEDUCED,
unsafe, log 23). -/
def State.endConversion (s : State) (code : BitVec 10) : State :=
  if s.temp.converting then
    let c := (s.temp.classify code.toNat).1
    let t := { s.temp with
      converting := false, code := code, last := some c, reason := (s.temp.classify code.toNat).2 }
    if s.temp.current = none ∨ (s.temp.current ≠ some c ∧ s.temp.candidate = some c) then
      ({ s with temp := { t with current := some c, candidate := none } }.raise .temp).startPass
    else if s.temp.current = some c then { s with temp := { t with candidate := none } }
    else { s with temp := { t with candidate := some c } }
  else s

def execConversionEnd (code : BitVec 10) (s : State) : Answer := .next (s.event fun s => s.endConversion code)

end Sys2Proof.Machine
end

