-- ==== Sys2Proof/Machine/Waveforms.lean ====
section
/-! DEFINITION. The Waveform Store and the table port (chapters 3 and 11): table writes and reads, MODE_CHECK,
MODE_ERASE and the end of a check. -/

namespace Sys2Proof.Machine

/-! ### Table writes (R45 to R47) -/

/-- A mode reopened by a taken table write: a check of it is abandoned and reported by TABLE (R47, R52). -/
def State.reopenMode (s : State) (m : Fin 8) : State :=
  let s' := s.setMode m { s.mode m with state := .opened, badReason := none }
  if (s.mode m).state = .checking then
    { s' with store := { s'.store with checkMode := m, checkResult := .abandoned } }.raise .table
  else s'

/-- Several modes reopened. -/
def State.reopenModes (s : State) : List (Fin 8) → State
  | [] => s
  | m :: ms => (s.reopenMode m).reopenModes ms

/-- A write to spaces 0 to 2 by the modes it affects: refused while one of them is in use, else performed, reopening
each of them (R46, R47). -/
def State.tableWrite (s : State) (affected : List (Fin 8)) (perform : State → State) : State :=
  if affected.any fun m => s.inUse m != 0 then s.refuseTable else (perform s).reopenModes affected

/-- A writable word of a descriptor block written; bits beyond a field's width are ignored (Table 11.7, space 0). -/
def Descriptor.writeWord (d : Descriptor) (k : Nat) (w : Word) : Descriptor :=
  match k with
  | 0 => { d with levelCode := fieldBits w 0 2, flash := bitOf w 2, changedOnly := bitOf w 3 }
  | 1 => { d with rowBase := fieldBits w 0 11 }
  | 2 => { d with rowCount := fieldBits w 0 12 }
  | 3 => { d with bandSet := fieldBits w 0 8 }
  | k => if h : 4 ≤ k ∧ k < 12 then { d with frameCounts := d.frameCounts.set (k - 4) (fieldBits w 0 7) (by omega) } else d

/-- A write to space 0 (R38): words 0 to 11 of a block are writable, the rest ignore writes. -/
def State.writeDescriptor (s : State) (off : Nat) (w : Word) : State :=
  if h : off < 128 then
    if off % 16 < 12 then
      let m : Fin 8 := ⟨off / 16, by omega⟩
      s.tableWrite [m] fun s => s.setMode m ((s.mode m).writeWord (off % 16) w)
    else s
  else s

/-- A write to space 1 (R39). -/
def State.writePair (s : State) (off : Nat) (w : Word) : State :=
  if h : off < 16384 then
    s.tableWrite [⟨off / 2048, by omega⟩] fun s =>
      { s with store := { s.store with pairs := s.store.pairs.write off (pairOfNumber w.toNat) } }
  else s

/-- A write to space 2 (R40): it affects every mode whose row range holds the row. -/
def State.writeRow (s : State) (off : Nat) (w : Word) : State :=
  if off < 16384 then
    s.tableWrite (modeNumbers.filter fun m => (s.mode m).inRange (off / 8)) fun s =>
      { s with store := { s.store with rows := s.store.rows.write off w } }
  else s

/-- A write to space 3, taken at once (R137). -/
def State.writeBandTable (s : State) (off : Nat) (w : Word) : State :=
  match off with
  | 0 => { s with temp := { s.temp with lowLimit := fieldBits w 0 10 } }
  | 1 => { s with temp := { s.temp with bandCount := fieldBits w 0 4 } }
  | off =>
    if h : 2 ≤ off ∧ off < 10 then
      { s with temp := { s.temp with upper := s.temp.upper.set (off - 2) (fieldBits w 0 11) (by omega) } }
    else s

/-- Every TABLE_DATA access adds 1 to the offset, which wraps within the space (R159). -/
def State.advanceIndex (s : State) : State :=
  { s with bus := { s.bus with tableOffset := s.bus.tableOffset + 1 } }

/-- A write to TABLE_DATA reaches the word of the selected space at the present offset (R159). -/
def State.tablePortWrite (s : State) (w : Word) : State :=
  (match s.bus.tableSpace.toNat with
    | 0 => s.writeDescriptor s.bus.tableOffset.toNat w
    | 1 => s.writePair s.bus.tableOffset.toNat w
    | 2 => s.writeRow s.bus.tableOffset.toNat w
    | 3 => s.writeBandTable s.bus.tableOffset.toNat w
    | 4 | 5 | 6 => s.raise .tableErr
    | _ => s).advanceIndex

def execTableDataWrite (w : Word) (s : State) : Answer := .next (s.access fun s => s.tablePortWrite w)

def execBandTableWrite (w : Word) (s : State) : Answer := .next (s.access fun s => s.tablePortWrite w)

def execReadOnlySpaceWrite (w : Word) (s : State) : Answer := .next (s.access fun s => s.tablePortWrite w)

/-! ### Table reads (R160) -/

def ModeState.code : ModeState → Nat
  | .empty => 0 | .opened => 1 | .checking => 2 | .ready => 3 | .bad => 4

def BadReason.code : BadReason → Nat
  | .noBand => 1 | .frameCount => 2 | .rowRange => 3 | .illegalCode => 4 | .checkWord => 5

/-- A word of mode m's descriptor block (Table 11.7, space 0). -/
def State.descriptorWord (s : State) (m : Fin 8) (k : Nat) : Word :=
  let d := s.mode m
  match k with
  | 0 => pack [(0, d.levelCode.toNat), (2, flagBit d.flash), (3, flagBit d.changedOnly)]
  | 1 => pack [(0, d.rowBase.toNat)]
  | 2 => pack [(0, d.rowCount.toNat)]
  | 3 => pack [(0, d.bandSet.toNat)]
  | 12 => d.checkWord
  | 13 => pack [(0, d.state.code), (4, match d.badReason with | none => 0 | some r => r.code)]
  | 14 => pack [(0, s.inUse m)]
  | k => if h : 4 ≤ k ∧ k < 12 then pack [(0, (d.frameCounts[k - 4]'(by omega)).toNat)] else 0

/-- A tile record's word (Table 11.7, space 4). -/
def Tile.word (t : Tile) : Word :=
  pack [(0, match t.owner with | none => 0 | some n => n.val), (4, flagBit t.owner.isSome), (5, flagBit t.known),
    (8, t.count)]

def SlotState.code : SlotState → Nat
  | .free => 0 | .starting => 1 | .driving => 2 | .committing => 3 | .ending => 4

def SlotOutcome.code : SlotOutcome → Nat
  | .done => 1 | .cancelled => 2 | .fault => 3

/-- A number as a register word. -/
def wordOf (n : Nat) : Word := BitVec.ofNat 16 n

/-- A word of a slot's block (Table 11.7, space 5). A FREE slot reads 0 in every word (R93). -/
def Slot.word (sl : Slot) (k : Nat) : Word :=
  if sl.state = .free then 0
  else match k with
    | 0 => pack [(0, sl.state.code), (4, match sl.outcome with | none => 0 | some o => o.code),
        (6, flagBit sl.snapshotDone), (7, flagBit sl.drivenAnything), (8, sl.tag.toNat)]
    | 1 => wordOf sl.rect.x
    | 2 => wordOf sl.rect.y
    | 3 => wordOf sl.rect.w
    | 4 => wordOf sl.rect.h
    | 5 => pack [(0, sl.mode.val), (4, sl.band.val), (8, flagBit sl.promoted), (9, flagBit sl.widened),
        (10, flagBit sl.notify), (11, flagBit sl.startStamp.isSome)]
    | 6 => pack [(0, sl.frameTotal), (8, sl.frameIndex)]
    | 7 => pack [(0, sl.framesDriven)]
    | 8 => sl.startStamp.getD 0
    | _ => 0

def RejectReason.code : RejectReason → Nat
  | .bandUnsupported => 1 | .needsClean => 2 | .cleanUnavailable => 3

def EntryState.code : EntryState → Nat
  | .waiting => 1 | .withdrawn => 2 | .rejecting _ => 3

/-- A word of an entry's block (Table 11.7, space 6). -/
def Entry.word (e : Entry) (k : Nat) : Word :=
  match k with
  | 0 => pack [(0, e.tag.toNat), (8, e.afterTag.toNat)]
  | 1 => pack [(0, e.state.code), (2, match e.state with | .rejecting r => r.code | _ => 0), (4, e.mode.val),
      (7, flagBit e.notify), (8, flagBit e.noPromote)]
  | 2 => wordOf e.rect.x
  | 3 => wordOf e.rect.y
  | 4 => wordOf e.rect.w
  | 5 => wordOf e.rect.h
  | _ => 0

/-- The word of a table space at an offset, as it stands (R159, R160). -/
def State.tableWord (s : State) (space off : Nat) : Word :=
  match space with
  | 0 => if h : off < 128 then s.descriptorWord ⟨off / 16, by omega⟩ (off % 16) else 0
  | 1 => if off < 16384 then wordOf (pairNumber (s.pairAt off)) else 0
  | 2 => if off < 16384 then s.rowWordAt off else 0
  | 3 =>
    if off = 0 then wordOf s.temp.lowLimit.toNat
    else if off = 1 then wordOf s.temp.bandCount.toNat
    else if h : 2 ≤ off ∧ off < 10 then wordOf (s.temp.upper[off - 2]'(by omega)).toNat
    else 0
  | 4 => match s.tiles[off]? with | some t => t.word | none => 0
  | 5 => if h : off < 256 then (s.slot ⟨off / 16, by omega⟩).word (off % 16) else 0
  | 6 => if off < 64 then (match s.queue[off / 8]? with | some e => e.word (off % 8) | none => 0) else 0
  | _ => 0

/-- A read of TABLE_DATA returns the indexed word and advances the offset (R159). -/
def State.tablePortRead (s : State) : State :=
  { s with bus := { s.bus with
      busData := s.tableWord s.bus.tableSpace.toNat s.bus.tableOffset.toNat } }.advanceIndex

def execTableDataRead (s : State) : Answer := .next (s.readAccess State.tablePortRead)

/-! ### Checking a mode (R48 to R51) -/

/-- MODE_CHECK (R48). -/
def State.modeCheck (s : State) : State × Result :=
  match s.argMode with
  | none => (s, .badMode)
  | some m =>
    if s.inUse m ≠ 0 then (s, .inUse)
    else if s.checking.isSome then (s, .busy)
    else (s.setMode m { s.mode m with state := .checking, badReason := none, checkWord := s.arg 1 }, .accepted)

def execModeCheck (s : State) : Answer := .next (s.command 0x09 State.modeCheck)

/-- The bands of a mode's band set, ascending. -/
def Descriptor.bands (d : Descriptor) : List (Fin 8) := modeNumbers.filter d.hasBand

/-- Pass 1, descriptor (R49). -/
def Descriptor.defect (d : Descriptor) : Option BadReason :=
  if d.bands.isEmpty then some .noBand
  else if d.bands.any fun b => decide (d.frameCounts[b].toNat < 1) || decide (64 < d.frameCounts[b].toNat) then
    some .frameCount
  else if d.rowCount.toNat = 0 ∨ Config.poolRows < d.rowBase.toNat + d.rowCount.toNat then some .rowRange
  else none

/-- Pass 2, pair maps: some entry of a band of the set holds an offset not below the row count (R49). -/
def State.entryOutOfRange (s : State) (m : Fin 8) : Bool :=
  (s.mode m).bands.any fun b => (List.range 256).any fun i =>
    match s.pairEntry m b i with
    | none => false
    | some o => decide ((s.mode m).rowCount.toNat ≤ o.toNat)

/-- Pass 3, referenced rows: some code below the frame count is GROUND (R49). -/
def State.groundUsed (s : State) (m : Fin 8) : Bool :=
  (s.mode m).bands.any fun b => (List.range 256).any fun i =>
    match s.pairEntry m b i with
    | none => false
    | some o => (List.range ((s.mode m).frameCounts[b]).toNat).any fun k =>
        s.rowCode ((s.mode m).rowBase.toNat + o.toNat) k == .ground

/-- The check word sum (R50). -/
def State.checkSum (s : State) (m : Fin 8) : Word :=
  let d := s.mode m
  wordOf (d.levelCode.toNat + (flagBit d.flash + 2 * flagBit d.changedOnly) + d.rowBase.toNat + d.rowCount.toNat
    + d.bandSet.toNat
    + (d.bands.map fun b => d.frameCounts[b].toNat).sum
    + (d.bands.map fun b => ((List.range 256).map fun i => pairNumber (s.pairEntry m b i)).sum).sum
    + ((List.range (8 * d.rowCount.toNat)).map fun k => (s.rowWordAt (8 * d.rowBase.toNat + k)).toNat).sum)

/-- The first defect a check of mode m finds, if any (R49). The tables it reads cannot have changed since it began, or
it would have been abandoned (R52). -/
def State.checkDefect (s : State) (m : Fin 8) : Option BadReason :=
  match (s.mode m).defect with
  | some r => some r
  | none =>
    if s.entryOutOfRange m then some .rowRange
    else if s.groundUsed m then some .illegalCode
    else if s.checkSum m ≠ (s.mode m).checkWord then some .checkWord
    else none

/-- The end of the check in progress: READY or BAD, TABLE raised, and a pass on READY (R51). -/
def State.endCheck (s : State) : State :=
  match s.checking with
  | none => s
  | some m =>
    match s.checkDefect m with
    | none =>
      let s := s.setMode m { s.mode m with state := .ready, badReason := none }
      ({ s with store := { s.store with checkMode := m, checkResult := .ready } }.raise .table).startPass
    | some r =>
      let s := s.setMode m { s.mode m with state := .bad, badReason := some r }
      { s with store := { s.store with checkMode := m, checkResult := .bad r } }.raise .table

def execCheckEnd (s : State) : Answer := .next (s.event State.endCheck)

/-! ### Erasing a mode (R53) -/

/-- MODE_ERASE (R53). -/
def State.modeErase (s : State) : State × Result :=
  match s.argMode with
  | none => (s, .badMode)
  | some m =>
    if s.inUse m ≠ 0 then (s, .inUse)
    else if (s.mode m).state = .checking then (s, .busy)
    else (s.setMode m Descriptor.zeroed, .accepted)

def execModeErase (s : State) : Answer := .next (s.command 0x0A State.modeErase)

end Sys2Proof.Machine
end

