-- ==== Sys2Proof/Machine/Window.lean ====
section
/-! DEFINITION. The register window (chapter 11): configuration, STATUS, EVENT and the read views of every register. -/

namespace Sys2Proof.Machine

/-! ### Writes with a row of their own -/

/-- A write to CONTROL takes all three fields; one that finds AUTO_WAKE clear and leaves it set starts a pass (R156). -/
def State.writeControl (s : State) (w : Word) : State :=
  let s' := { s with bus := { s.bus with
    autoWake := bitOf w 0, dreqEnable := bitOf w 1, statusPage := fieldBits w 2 2 } }
  if !s.bus.autoWake && bitOf w 0 then s'.startPass else s'

def execControlWrite (w : Word) (s : State) : Answer := .next (s.access fun s => s.writeControl w)

/-- A write to POLICY takes both fields clamped and starts a pass, whether or not they change (R54, R82). -/
def State.writePolicy (s : State) (w : Word) : State :=
  { s with config := { s.config with
      partialLimit := clamp 0 15 (field w 0 8), cleanMode := clampMode (field w 8 8) } }.startPass

def execPolicyWrite (w : Word) (s : State) : Answer := .next (s.access fun s => s.writePolicy w)

def execEventWrite (w : Word) (s : State) : Answer := .next (s.access fun s => s.clearFlags w)

/-- A write to EVENT_MASK takes every enable as written (R150). -/
def State.writeMask (s : State) (w : Word) : State := { s with eventMask := fieldBits w 0 10 }

def execEventMaskWrite (w : Word) (s : State) : Answer := .next (s.access fun s => s.writeMask w)

/-- The part is quiescent: sequencer OFF, no request live, Load Engine CLOSED (R16). -/
def State.quiescent (s : State) : Bool :=
  s.power.state == .off && !s.anyLive && s.load.state == .closed

/-- A programmable width or height: a multiple of 16 within the register's range (R16). -/
def programmable (axis : PanelAxis) (v : Nat) : Bool :=
  v % 16 == 0 && decide (64 ≤ v) && decide (v ≤ match axis with | .width => 1024 | .height => 768)

/-- A taken geometry write changes the register and resets the tile map for the new geometry (R17). -/
def State.takeGeometry (s : State) (axis : PanelAxis) (v : Nat) : State :=
  let c := match axis with
    | .width => { s.config with panelW := v }
    | .height => { s.config with panelH := v }
  { s with config := c, tiles := List.replicate (tileCount c.panelW c.panelH) Tile.blank }

/-- A write to PANEL_W or PANEL_H, taken or refused with CFG_REFUSED (R16). -/
def State.writeGeometry (s : State) (axis : PanelAxis) (w : Word) : State :=
  if s.quiescent && programmable axis w.toNat then s.takeGeometry axis w.toNat else s.refuseConfig

def execPanelGeometryWrite (axis : PanelAxis) (w : Word) (s : State) : Answer :=
  .next (s.access fun s => s.writeGeometry axis w)

/-! ### Plain registers (R156, R159) -/

/-- A write to COMMAND of a code without a command has no effect but its answer (R154). -/
def State.noCommand (s : State) : State × Result := (s, .unknownCommand)

def execUnknownCommand (code : Word) (s : State) : Answer := .next (s.command code State.noCommand)

/-- A write to a configuration, argument or index register; a write to any register that is read-only is ignored
(R153, R156, R159). The registers with an effect of their own are those of `State.writeRegister`. -/
def State.writePlain (s : State) (r : Reg) (w : Word) : State :=
  match r with
  | .arg n => { s with bus := { s.bus with args := s.bus.args.set n w } }
  | .tableIndexHi =>
    { s with bus := { s.bus with
        tableSpace := fieldBits w 8 3, tableOffset := fieldBits w 0 4 ++ s.bus.tableOffset.extractLsb' 0 16 } }
  | .tableIndexLo =>
    { s with bus := { s.bus with tableOffset := s.bus.tableOffset.extractLsb' 16 4 ++ w } }
  | .frameTime => { s with config := { s.config with frameTime := clamp 50 500 w.toNat } }
  | .powerTimes =>
    { s with config := { s.config with
        riseLimit := clamp 1 255 (field w 0 8), fallTime := clamp 1 255 (field w 8 8) } }
  | .frameCounts =>
    { s with config := { s.config with
        idleFrames := clamp 0 255 (field w 0 8), dischargeFrames := clamp 1 255 (field w 8 8) } }
  | .scanTemp =>
    { s with config := { s.config with
        sckDiv := clamp 2 16 (field w 0 8), tempPeriod := clamp 0 255 (field w 8 8) } }
  | .id | .control | .status | .event | .eventMask | .command | .cmdResult | .loadData | .tableData | .comp _
  | .frameCount | .tempCode | .band | .panelW | .panelH | .policy | .revision => s

/-! ### STATUS (R157) -/

def LoadState.code : LoadState → Nat
  | .closed => 0 | .writing => 1 | .draining => 2 | .reading => 3 | .filling => 4 | .autoPending => 5

def EndReason.code : EndReason → Nat
  | .none => 0 | .complete => 1 | .short => 2 | .discarded => 3

def ErrReason.code : ErrReason → Nat
  | .none => 0 | .overrun => 1 | .autoRefused => 2

def CheckResult.code : CheckResult → Nat
  | .none => 0 | .ready => 1 | .bad r => r.code + 1 | .abandoned => 7

def PowerState.code : PowerState → Nat
  | .off => 0 | .rising => 1 | .on => 2 | .discharging => 3 | .falling => 4 | .fault => 5

def FaultReason.code : FaultReason → Nat
  | .none => 0 | .riseTimeout => 1 | .supplyLost => 2 | .fallTimeout => 3

/-- The fields of the STATUS page that STATUS_PAGE selects (Table 11.5). -/
def State.statusFields (s : State) : List (Nat × Nat) :=
  match s.bus.statusPage.toNat with
  | 0 => [(0, s.load.state.code), (3, s.load.fifo.length), (9, s.load.endReason.code), (11, s.load.errReason.code)]
  | 1 => [(0, s.queue.length), (4, s.completions.length), (9, s.load.loadResult.code)]
  | 2 => [(0, s.store.checkMode.val), (3, s.store.checkResult.code), (6, s.posters.length)]
  | _ => [(0, s.power.state.code), (3, flagBit s.power.downPending), (4, flagBit s.power.wakePending),
      (5, s.power.faultReason.code), (7, flagBit s.power.dischargeIncomplete), (8, flagBit s.pgood)]

/-- STATUS: the selected page with the two sticky flags (R157). -/
def State.statusWord (s : State) : Word :=
  pack (s.statusFields ++ [(14, flagBit s.bus.tableRefused), (15, flagBit s.bus.cfgRefused)])

/-- A read of STATUS returns the page and clears both sticky flags (R157). -/
def State.readStatus (s : State) : State :=
  { s with bus := { s.bus with busData := s.statusWord } }.clearSticky

def execStatusRead (s : State) : Answer := .next (s.readAccess State.readStatus)

/-! ### The value each register shows (R153, R156 to R158) -/

def RecordOutcome.code : RecordOutcome → Nat
  | .done => 0 | .cancelled => 1 | .fault => 2 | .rejected _ => 3

/-- COMP0 to COMP3 of a record (Table 11.6). -/
def Record.word (r : Record) (n : Fin 4) : Word :=
  match n with
  | 0 => pack [(0, r.tag.toNat), (8, flagBit r.widened), (9, flagBit r.promoted), (10, flagBit r.started),
      (11, match r.outcome with | .rejected k => k.code | _ => 0), (13, r.outcome.code), (15, 1)]
  | 1 => pack [(0, r.mode.val), (3, flagBit r.band.isSome), (4, match r.band with | some b => b.val | none => 0),
      (7, flagBit r.startStamp.isSome), (8, r.framesDriven)]
  | 2 => r.startStamp.getD 0
  | 3 => r.endStamp

/-- A classification as BAND codes it: 0 to 7 a band, 8 for none, 9 for OUT. -/
def bandCode : Option TempClass → Nat
  | none => 8
  | some (.band b) => b.val
  | some .out => 9

def ClassReason.code : ClassReason → Nat
  | .none => 0 | .below => 1 | .above => 2 | .bandTableBad => 3

/-- The value a register shows at a moment. For STATUS, LOAD_DATA and TABLE_DATA a read has effects besides, which
their rows give; for every other register a read changes nothing (R153). -/
def State.readRegister (s : State) : Reg → Word
  | .id => Config.idWord
  | .control => pack [(0, flagBit s.bus.autoWake), (1, flagBit s.bus.dreqEnable), (2, s.bus.statusPage.toNat)]
  | .status => s.statusWord
  | .event => s.events.setWidth 16
  | .eventMask => s.eventMask.setWidth 16
  | .command => s.bus.command
  | .cmdResult => wordOf s.bus.cmdResult.code
  | .arg n => s.bus.args[n]
  | .loadData => if s.load.state = .reading then s.load.fifo.headD 0 else 0
  | .tableIndexHi => pack [(0, s.bus.tableOffset.toNat / 65536), (8, s.bus.tableSpace.toNat)]
  | .tableIndexLo => s.bus.tableOffset.extractLsb' 0 16
  | .tableData => s.tableWord s.bus.tableSpace.toNat s.bus.tableOffset.toNat
  | .comp n => match s.completions with | [] => 0 | r :: _ => r.word n
  | .frameCount => s.frame.counter
  | .tempCode => s.temp.code.setWidth 16
  | .band => pack [(0, bandCode s.temp.current), (4, bandCode s.temp.candidate), (8, bandCode s.temp.last),
      (12, s.temp.reason.code), (14, flagBit s.temp.converting)]
  | .panelW => wordOf s.config.panelW
  | .panelH => wordOf s.config.panelH
  | .frameTime => wordOf s.config.frameTime
  | .powerTimes => pack [(0, s.config.riseLimit), (8, s.config.fallTime)]
  | .frameCounts => pack [(0, s.config.idleFrames), (8, s.config.dischargeFrames)]
  | .policy => pack [(0, s.config.partialLimit), (8, s.config.cleanMode.val)]
  | .scanTemp => pack [(0, s.config.sckDiv), (8, s.config.tempPeriod)]
  | .revision => Config.revisionWord

end Sys2Proof.Machine
end

