-- ==== Sys2Proof/Machine/Resets.lean ====
section
/-! DEFINITION. The resets: VDD, nRESET and SOFT_RESET (R162, R163 and each block's own reset rule). -/

namespace Sys2Proof.Machine

/-! ### VDD and nRESET (R162, R163) -/

/-- nRESET goes low: every block takes its pin-reset state; the planes, the pair maps and the row pool keep their
contents (R5, R56); a stretched read ends and returns 0 (R36); no timer runs (R162). -/
def State.pinReset (s : State) : State :=
  { State.reset with
    pending := s.pending
    phase := .inReset
    freeIndex := s.freeIndex
    pgood := s.pgood
    bus := { BusInterface.reset with busData := if s.bus.stretched = some .read then 0 else s.bus.busData }
    image := s.image
    store := { WaveformStore.reset with pairs := s.store.pairs, rows := s.store.rows }
    frame := ⟨none, false, 0⟩ }

def execPinReset (s : State) : Answer := .next s.pinReset

/-- D[15:0] as the part leaves it: not driven (`none`) while nRESET is low (R162), else the word that the last read access
returned (log 15). -/
def State.dataBus (s : State) : Option Word :=
  match s.phase with
  | .inReset => none
  | .undefined | .running => some s.bus.busData

/-- VDD is applied: the planes and tables hold free values, the sequencer is OFF, and every other block is undefined
until nRESET is low; where nRESET is low already, it is in its pin-reset state (R5, R56, R162). -/
def State.applyVdd (s : State) : State :=
  match s.phase with
  | .inReset => s.redraw.pinReset
  | .undefined | .running => s.redraw

def execVddApplied (s : State) : Answer := .next s.applyVdd

/-- nRESET returns high: the frame timer begins its first period, and accesses are taken from then on (R119, R162). -/
def State.releaseReset (s : State) : State :=
  match s.phase with
  | .undefined => s.redraw
  | .inReset => { s with phase := .running, frame := { s.frame with period := some s.config.frameTime } }
  | .running => s

def execResetRelease (s : State) : Answer := .next s.releaseReset

/-- A bus access made while nRESET is low is not taken: a write changes nothing and a read returns 0 (R163). -/
def State.accessInReset (s : State) (a : BusAccess) : State :=
  match s.phase, a with
  | .undefined, _ => s.redraw
  | .inReset, .read => { s with bus := { s.bus with busData := 0 } }
  | .inReset, .write => s
  | .running, _ => s

def execBusAccessInReset (a : BusAccess) (s : State) : Answer := .next (s.accessInReset a)

/-! ### SOFT_RESET (R154) -/

/-- The slots whose driven-anything flag is set decide the tiles (R14): each tile owned by such a slot becomes UNKNOWN,
and every tile takes owner none. -/
def State.softResetTile (s : State) (t : Tile) : Tile :=
  match t.owner with
  | none => t
  | some n => if (s.slot n).drivenAnything then { t.makeUnknown with owner := none } else { t with owner := none }

/-- The sequencer at a soft reset (R133). -/
def PowerSequencer.softReset (p : PowerSequencer) (fallTime : Nat) : PowerSequencer :=
  let p := { p with downPending := false, wakePending := false, idleCount := 0, dischargeCount := 0 }
  match p.state with
  | .rising | .on | .discharging | .fault => { p with state := .falling, riseTimer := none, fallTimer := some fallTime }
  | .falling | .off => p

/-- A descriptor at a soft reset: a check is abandoned, every other mode keeps its state (R57). -/
def Descriptor.softReset (d : Descriptor) : Descriptor :=
  if d.state = .checking then { d with state := .opened, badReason := none } else d

/-- The soft reset of every block (R14, R36, R57, R73, R91, R108, R120, R133, R142, R152, R161). -/
def State.softReset (s : State) : State :=
  { s with
    events := 0
    load := s.load.closed
    store := { s.store with modes := s.store.modes.map Descriptor.softReset }
    queue := []
    dispatcher := ⟨false, false⟩
    slots := Vector.replicate 16 Slot.cleared
    tiles := s.tiles.map s.softResetTile
    jobs := []
    plan := []
    frame := ⟨some s.config.frameTime, false, 0⟩
    scan := none
    power := s.power.softReset s.config.fallTime
    temp := { s.temp with converting := false, periodCount := 0 }
    completions := []
    posters := [] }

def execSoftReset (s : State) : Answer := .next (s.command 0x0F fun s => (s.softReset, .accepted))

end Sys2Proof.Machine
end

