-- ==== Sys2Proof/Machine/Commands.lean ====
section
/-! DEFINITION. The write of any register by its address: the command that a word written to COMMAND hands over
(Table 11.2), and every other register's own write (Table 11.1). -/

namespace Sys2Proof.Machine

/-- The effect and the result of the command that a code names; a code that names none has no effect and is answered
UNKNOWN_COMMAND (R154, Table 11.2). -/
def State.commandEffect (s : State) (code : Word) : State × Result :=
  match code.toNat with
  | 0x01 => s.submit
  | 0x02 => s.cancel
  | 0x03 => s.cancelAll
  | 0x04 => s.popRecord
  | 0x05 => s.loadOpen
  | 0x06 => s.loadClose
  | 0x07 => s.startFill
  | 0x08 => s.tileSet
  | 0x09 => s.modeCheck
  | 0x0A => s.modeErase
  | 0x0B => s.powerUp
  | 0x0C => s.powerDown
  | 0x0D => s.clearFault
  | 0x0E => s.sampleTemp
  | 0x0F => (s.softReset, .accepted)
  | _ => s.noCommand

/-- A word written to a register, whichever it is: COMMAND hands over the command that the word names, and the registers
whose write has a row of its own take it as that row does (R153, R154; log 12). -/
def State.writeRegister (s : State) (r : Reg) (w : Word) : State :=
  match r with
  | .command => s.commanded w fun s => s.commandEffect w
  | .control => s.writeControl w
  | .event => s.clearFlags w
  | .eventMask => s.writeMask w
  | .loadData => s.writeStream w
  | .tableData => s.tablePortWrite w
  | .panelW => s.writeGeometry .width w
  | .panelH => s.writeGeometry .height w
  | .policy => s.writePolicy w
  | r => s.writePlain r w

def execRegisterWrite (r : Reg) (w : Word) (s : State) : Answer := .next (s.access fun s => s.writeRegister r w)

end Sys2Proof.Machine
end

