-- ==== Sys2Proof/Machine/Dispatch.lean ====
section
/-! DEFINITION. One arm per command or event of the table, each one call of its meaning. -/

namespace Sys2Proof.Machine

def exec (i : Instr) (s : State) : Host.Outcome State Fault Refusal :=
  match i with
  | .submit => Sys2Proof.Machine.execSubmit s
  | .cancel => Sys2Proof.Machine.execCancel s
  | .cancelAll => Sys2Proof.Machine.execCancelAll s
  | .pop => Sys2Proof.Machine.execPop s
  | .loadOpen => Sys2Proof.Machine.execLoadOpen s
  | .loadClose => Sys2Proof.Machine.execLoadClose s
  | .fill => Sys2Proof.Machine.execFill s
  | .tileSet => Sys2Proof.Machine.execTileSet s
  | .modeCheck => Sys2Proof.Machine.execModeCheck s
  | .modeErase => Sys2Proof.Machine.execModeErase s
  | .powerUp => Sys2Proof.Machine.execPowerUp s
  | .powerDown => Sys2Proof.Machine.execPowerDown s
  | .clearFault => Sys2Proof.Machine.execClearFault s
  | .sampleTemp => Sys2Proof.Machine.execSampleTemp s
  | .softReset => Sys2Proof.Machine.execSoftReset s
  | .unknownCommand code => Sys2Proof.Machine.execUnknownCommand code s
  | .loadDataWrite port word => Sys2Proof.Machine.execLoadDataWrite port word s
  | .loadDataRead port => Sys2Proof.Machine.execLoadDataRead port s
  | .stretchedWriteComplete => Sys2Proof.Machine.execStretchedWriteComplete s
  | .stretchedReadComplete => Sys2Proof.Machine.execStretchedReadComplete s
  | .tableDataWrite word => Sys2Proof.Machine.execTableDataWrite word s
  | .bandTableWrite word => Sys2Proof.Machine.execBandTableWrite word s
  | .readOnlySpaceWrite word => Sys2Proof.Machine.execReadOnlySpaceWrite word s
  | .tableDataRead => Sys2Proof.Machine.execTableDataRead s
  | .statusRead => Sys2Proof.Machine.execStatusRead s
  | .eventWrite word => Sys2Proof.Machine.execEventWrite word s
  | .eventMaskWrite word => Sys2Proof.Machine.execEventMaskWrite word s
  | .panelGeometryWrite axis word => Sys2Proof.Machine.execPanelGeometryWrite axis word s
  | .policyWrite word => Sys2Proof.Machine.execPolicyWrite word s
  | .controlWrite word => Sys2Proof.Machine.execControlWrite word s
  | .registerWrite reg word => Sys2Proof.Machine.execRegisterWrite reg word s
  | .vddApplied => Sys2Proof.Machine.execVddApplied s
  | .pinReset => Sys2Proof.Machine.execPinReset s
  | .resetRelease => Sys2Proof.Machine.execResetRelease s
  | .busAccessInReset access => Sys2Proof.Machine.execBusAccessInReset access s
  | .pgoodRise => Sys2Proof.Machine.execPgoodRise s
  | .pgoodFall => Sys2Proof.Machine.execPgoodFall s
  | .frameTimerExpiry order => Sys2Proof.Machine.execFrameTimerExpiry order s
  | .frameStart order => Sys2Proof.Machine.execFrameStart order s
  | .scanEnd order => Sys2Proof.Machine.execScanEnd order s
  | .riseTimerExpiry => Sys2Proof.Machine.execRiseTimerExpiry s
  | .fallTimerExpiry => Sys2Proof.Machine.execFallTimerExpiry s
  | .idleCountReached order => Sys2Proof.Machine.execIdleCountReached order s
  | .dischargeCountReached => Sys2Proof.Machine.execDischargeCountReached s
  | .periodicConversionRequest order => Sys2Proof.Machine.execPeriodicConversionRequest order s
  | .conversionEnd code => Sys2Proof.Machine.execConversionEnd code s
  | .checkEnd => Sys2Proof.Machine.execCheckEnd s
  | .quadAccess => Sys2Proof.Machine.execQuadAccess s
  | .drainEnd => Sys2Proof.Machine.execDrainEnd s
  | .fillEnd => Sys2Proof.Machine.execFillEnd s
  | .snapshotEnd => Sys2Proof.Machine.execSnapshotEnd s
  | .commitEnd => Sys2Proof.Machine.execCommitEnd s
  | .entryExamination => Sys2Proof.Machine.execEntryExamination s
  | .autoPresentationRetry => Sys2Proof.Machine.execAutoPresentationRetry s

end Sys2Proof.Machine
end

