-- ==== Sys2Proof/Safety.lean ====
section
/-! DEFINITION. What counts as a safe state of the part, and the words the statements use. -/

namespace Sys2Proof.Machine

/-! ### When the part takes a command -/

/-- Nothing is left over for the end of a step: no discharge waits on down-pending, the scan in progress is in the
sequencer state it began in, and a pass in progress has an entry left to examine (R75, R118, R125). -/
def State.settled (s : State) : Bool :=
  !(s.power.state == .on && s.power.downPending && !s.anyActive)
    && (match s.scan with | none => true | some sc => sc.kind.home == s.power.state)
    && (!s.dispatcher.passInProgress || s.queue.any Entry.toExamine)

/-- The part runs and nothing is left over. -/
abbrev State.runs (s : State) : Prop := s.phase = .running ∧ s.settled = true

/-- The part takes a bus access: it runs and no access is being stretched. -/
abbrev State.takes (s : State) : Prop := s.runs ∧ s.bus.stretched = none

/-- The state with COMMAND and CMD_RESULT as a command leaves them (R154). -/
def State.answered (s : State) (code : Word) (r : Result) : State :=
  { s with bus := { s.bus with command := code, cmdResult := r } }

/-- An entry without the model's mark that the running pass has still to reach it: the fields of Table 4.1. -/
def Entry.plain (e : Entry) : Entry := { e with due := false }

/-- The queue as its entries stand, without the model's marks. -/
def State.plainQueue (s : State) : List Entry := s.queue.map Entry.plain

/-- An entry whose after-tag is cleared if it names the tag (R64). -/
def Entry.released (t : Tag) (e : Entry) : Entry := if e.afterTag = t then { e with afterTag := 0 } else e

/-- The modes that a write to a word of table spaces 0 to 2 affects (R45). -/
def State.affectedModes (s : State) (space off : Nat) : List (Fin 8) :=
  match space with
  | 0 => modeNumbers.filter fun m => decide (off / 16 = m.val) && decide (off % 16 < 12)
  | 1 => modeNumbers.filter fun m => decide (off / 2048 = m.val)
  | 2 => modeNumbers.filter fun m => decide (off < 16384) && (s.mode m).inRange (off / 8)
  | _ => []

/-! ### Stores, capacities and configuration -/

/-- The planes, the pair maps and the row pool keep their canonical form. -/
def State.storesCanonical (s : State) : Bool :=
  s.image.target.wf && s.image.current.wf && s.image.frozen.wf && s.store.pairs.wf && s.store.rows.wf

/-- The capacities of the queues (R22, R59, R144). -/
def State.withinCapacity (s : State) : Bool :=
  decide (s.queue.length ≤ Config.queuePlaces) && decide (s.completions.length ≤ Config.completionPlaces)
    && decide (s.load.fifo.length ≤ Config.fifoPlaces)

/-- Every configuration field is in its range (R156, R16). -/
def ConfigRegs.inRange (c : ConfigRegs) : Bool :=
  decide (50 ≤ c.frameTime) && decide (c.frameTime ≤ 500)
    && decide (1 ≤ c.riseLimit) && decide (c.riseLimit ≤ 255)
    && decide (1 ≤ c.fallTime) && decide (c.fallTime ≤ 255)
    && decide (c.idleFrames ≤ 255)
    && decide (1 ≤ c.dischargeFrames) && decide (c.dischargeFrames ≤ 255)
    && decide (c.partialLimit ≤ 15)
    && decide (2 ≤ c.sckDiv) && decide (c.sckDiv ≤ 16)
    && decide (c.tempPeriod ≤ 255)
    && programmable .width c.panelW && programmable .height c.panelH

/-- The tile map holds one record for each tile of the geometry, each with a partial count of at most 15 (R11). -/
def State.tileMapFits (s : State) : Bool :=
  decide (s.tiles.length = tileCount s.config.panelW s.config.panelH) && s.tiles.all fun t => decide (t.count ≤ 15)

/-! ### Modes, tiles, slots, jobs and requests -/

/-- A mode that some live request refers to is READY (Law 8, R44). -/
def State.usedModesReady (s : State) : Prop := ∀ m : Fin 8, s.inUse m ≠ 0 → (s.mode m).state = .ready

/-- A READY mode's tables pass the Table Checker as they stand (R42, R47). -/
def State.readyModesSound (s : State) : Prop :=
  ∀ m : Fin 8, (s.mode m).state = .ready → s.checkDefect m = none

/-- The tile map's owner law (R12): a tile's owner is a slot that is not FREE and claims the tile, and every tile in
the claim set of a slot that is not FREE is owned by that slot. -/
def State.ownersAgree (s : State) : Prop :=
  ∀ (k : Nat) (t : Tile) (n : Fin 16), s.tiles[k]? = some t →
    (t.owner = some n ↔ (s.slot n).state ≠ .free ∧ (s.slot n).rect.claims s.config.panelW k = true)

/-- A slot's fields keep step with its state (R92, R98, R101 to R105): a FREE slot is cleared; a STARTING slot has driven
nothing; a DRIVING slot's frame index is its frames driven less one and it has driven at most its frame total; a
COMMITTING slot has driven its frame total; an ENDING slot alone has an outcome, and DONE means the frame total. -/
def Slot.agrees (sl : Slot) : Bool :=
  match sl.state with
  | .free => sl == Slot.cleared
  | .starting =>
    sl.framesDriven == 0 && sl.frameIndex == 0 && !sl.drivenAnything && sl.startStamp.isNone && sl.outcome.isNone
  | .driving =>
    decide (1 ≤ sl.framesDriven) && decide (sl.framesDriven ≤ sl.frameTotal) && sl.frameIndex + 1 == sl.framesDriven
      && sl.drivenAnything && sl.startStamp.isSome && sl.outcome.isNone
  | .committing =>
    sl.framesDriven == sl.frameTotal && sl.drivenAnything && sl.startStamp.isSome && sl.outcome.isNone
  | .ending =>
    sl.outcome.isSome && (sl.outcome != some .done || (sl.framesDriven == sl.frameTotal && sl.startStamp.isSome))

/-- Every slot agrees with its state, and a slot that is not FREE runs in a band of its mode, for the frame count of
that band (R88). -/
def State.slotsSound (s : State) : Prop :=
  ∀ n : Fin 16, (s.slot n).agrees = true ∧
    ((s.slot n).state ≠ .free →
      (s.mode (s.slot n).mode).hasBand (s.slot n).band = true ∧
        (s.slot n).frameTotal = ((s.mode (s.slot n).mode).frameCounts[(s.slot n).band]).toNat)

/-- The slots' outcomes and the memory job list (R92, R94): the slots in ENDING are those with an outcome pending; a
slot has at most one job; the snapshot jobs are those of the STARTING slots whose snapshot is not done, and the commit
jobs those of the COMMITTING slots. -/
def State.jobsSound (s : State) : Prop :=
  (∀ n : Fin 16, (s.slot n).outcome.isSome = true ↔ (s.slot n).state = .ending) ∧
    (s.jobs.map Job.slot).Nodup ∧
    (∀ n : Fin 16, (∃ j ∈ s.jobs, j.slot = n ∧ j.kind = .snapshot) ↔
      (s.slot n).state = .starting ∧ (s.slot n).snapshotDone = false) ∧
    (∀ n : Fin 16, (∃ j ∈ s.jobs, j.slot = n ∧ j.kind = .commit) ↔ (s.slot n).state = .committing)

/-- A slot in the frame plan is DRIVING, and the plan holds its fields as they are (R99). -/
def State.planSound (s : State) : Prop :=
  ∀ p ∈ s.plan, (s.slot p.slot).state = .driving ∧ p = s.planEntry p.slot

/-- No code formed for an ON scan is GROUND (R42, R115). -/
def State.scanSound (s : State) : Prop :=
  ∀ sc, s.scan = some sc → ∀ px ∈ sc.shifting ++ sc.formed, px.code ≠ .ground

/-- What the drive port's safety rests on (R42, R92, R94, R99, Law 8). -/
def State.driveSound (s : State) : Prop :=
  s.usedModesReady ∧ s.readyModesSound ∧ s.slotsSound ∧ s.jobsSound ∧ s.planSound ∧ s.scanSound

/-- The tags of the live requests: the entries, then the slots that are not FREE (R60). -/
def State.liveTags (s : State) : List Tag :=
  s.queue.map Entry.tag ++ (slotNumbers.filter fun n => (s.slot n).state != .free).map fun n => (s.slot n).tag

/-- A poster's place: the slots in ENDING and the entries that are WITHDRAWN or REJECTING (R145). -/
def State.offers (s : State) : Poster → Prop
  | .slot n => (s.slot n).state = .ending
  | .entry t => ∃ e ∈ s.queue, e.tag = t ∧ e.state ≠ .waiting

/-- The live requests and the posters (R60, R145): no two live requests carry the same tag and none carries 0; the
waiting-poster list holds each poster once, and holds exactly the slots and entries whose records have not been taken;
while it holds one, the Completion Queue is full. -/
def State.requestsSound (s : State) : Prop :=
  s.liveTags.Nodup ∧ (0 : Tag) ∉ s.liveTags ∧
    s.posters.Nodup ∧ (∀ p, p ∈ s.posters ↔ s.offers p) ∧
    s.completions.length ≤ Config.completionPlaces ∧
    (s.posters ≠ [] → s.completions.length = Config.completionPlaces)

end Sys2Proof.Machine

namespace Sys2Proof

/-! ### Kinds of command -/

/-- The commands that are writes of COMMAND, with their codes (Table 11.2). -/
def Instr.commandCode : Instr → Option Word
  | .submit => some 0x01 | .cancel => some 0x02 | .cancelAll => some 0x03 | .pop => some 0x04
  | .loadOpen => some 0x05 | .loadClose => some 0x06 | .fill => some 0x07 | .tileSet => some 0x08
  | .modeCheck => some 0x09 | .modeErase => some 0x0A | .powerUp => some 0x0B | .powerDown => some 0x0C
  | .clearFault => some 0x0D | .sampleTemp => some 0x0E | .softReset => some 0x0F
  | .unknownCommand code => some code
  | _ => none

/-- The write accesses of the bus: the commands and the register writes. -/
def Instr.isBusWrite : Instr → Bool
  | .loadDataWrite _ _ | .tableDataWrite _ | .bandTableWrite _ | .readOnlySpaceWrite _ | .eventWrite _
  | .eventMaskWrite _ | .panelGeometryWrite _ _ | .policyWrite _ | .controlWrite _ | .registerWrite _ _
  | .busAccessInReset .write => true
  | i => i.commandCode.isSome

/-- The read accesses of the bus. -/
def Instr.isBusRead : Instr → Bool
  | .loadDataRead _ | .tableDataRead | .statusRead | .busAccessInReset .read => true
  | _ => false

end Sys2Proof
end

