-- ==== Sys2Proof/WellFormed.lean ====
section
/-! DEFINITION. Which terms of `Instr` name a command or event of the table. -/

namespace Sys2Proof

/-- A command code of Table 11.2, 0x01 to 0x0F; any other code is unassigned (R154). -/
def assignedCode (code : Word) : Bool := decide (1 ≤ code.toNat) && decide (code.toNat ≤ 15)

/-- The registers whose write has a row of its own in the table, and those that are no plain register
(COMMAND, LOAD_DATA, TABLE_DATA). -/
def Reg.hasOwnRow : Reg → Bool
  | .control | .event | .eventMask | .command | .loadData | .tableData | .panelW | .panelH | .policy => true
  | .id | .status | .cmdResult | .arg _ | .tableIndexHi | .tableIndexLo | .comp _ | .frameCount | .tempCode
  | .band | .frameTime | .powerTimes | .frameCounts | .scanTemp | .revision => false

/-- A term is well formed when it is a row of the table with operands that row admits: UNKNOWN_COMMAND carries
an unassigned code, REGISTER_WRITE a register without a row of its own. -/
def Instr.wellFormed : Instr → Bool
  | .unknownCommand code => !assignedCode code
  | .registerWrite reg _ => !reg.hasOwnRow
  | .submit | .cancel | .cancelAll | .pop | .loadOpen | .loadClose | .fill | .tileSet | .modeCheck
  | .modeErase | .powerUp | .powerDown | .clearFault | .sampleTemp | .softReset
  | .loadDataWrite _ _ | .loadDataRead _ | .stretchedWriteComplete | .stretchedReadComplete
  | .tableDataWrite _ | .bandTableWrite _ | .readOnlySpaceWrite _ | .tableDataRead | .statusRead
  | .eventWrite _ | .eventMaskWrite _ | .panelGeometryWrite _ _ | .policyWrite _ | .controlWrite _
  | .vddApplied | .pinReset | .resetRelease | .busAccessInReset _ | .pgoodRise | .pgoodFall
  | .frameTimerExpiry _ | .frameStart _ | .scanEnd _ | .riseTimerExpiry | .fallTimerExpiry
  | .idleCountReached _ | .dischargeCountReached | .periodicConversionRequest _ | .conversionEnd _
  | .checkEnd | .quadAccess | .drainEnd | .fillEnd | .snapshotEnd | .commitEnd
  | .entryExamination | .autoPresentationRetry => true

end Sys2Proof
end

