-- ==== Sys2Proof/Certificates/Slice0/Obligations.lean ====
section
/-! DEFINITION. The statements for the provers, chapter by chapter of the manual. -/

section Statements

open Sys2Proof Sys2Proof.Machine

/-! ### Steps and accesses -/

/-- A step takes the command at the front of the queue and runs it on the state with the queue's rest. -/
def Obligations.QueueFrontRuns : Prop :=
  ∀ (c : Instr) (rest : List Instr) (s : State), s.pending = c :: rest →
    step s = exec c { s with pending := rest }

/-- On an empty queue the part idles, or one SCK period of the scan in progress passes (log 4; R113: a line time has
W/8 + 2 SCK periods, a scan H + 4 line times; `PixelCodes` says what the next row holds). -/
def Obligations.EmptyQueueIdlesOrScans : Prop :=
  ∀ s : State, s.pending = [] →
    (s.scan = none ∨ s.phase ≠ .running → step s = .next s) ∧
    (∀ sc, s.phase = .running → s.scan = some sc →
      (sc.period < sc.w / 8 + 2 → step s = .next { s with scan := some { sc with period := sc.period + 1 } }) ∧
      (sc.w / 8 + 2 ≤ sc.period → sc.line < sc.h + 4 →
        step s = .next { s with scan := some { sc with
          line := sc.line + 1, period := 1, shifting := s.nextRow sc, formed := [], fromRead := none } }) ∧
      (sc.w / 8 + 2 ≤ sc.period → sc.h + 4 ≤ sc.line → step s = .next s))

/-- Every command and event answers a next state in every state, and leaves the queue of the waiting commands as it
was; a running part stays running but for the pins that reset it. -/
def Obligations.EveryCommandAnswers : Prop :=
  ∀ (c : Instr) (s : State), ∃ t, exec c s = .next t ∧ t.pending = s.pending ∧
    (s.phase = .running → c ≠ .vddApplied → c ≠ .pinReset → t.phase = .running ∧ t.freeIndex = s.freeIndex)

/-- R163, R22: while nRESET is low a write changes nothing and a read returns 0, LOAD_DATA by address or by nDACK among
them; while an access is being stretched no other access reaches the part. -/
def Obligations.AccessesNotTaken : Prop :=
  ∀ (c : Instr) (s : State),
    (s.phase = .inReset → c.isBusWrite = true → exec c s = .next s) ∧
    (s.phase = .inReset → c.isBusRead = true → exec c s = .next { s with bus := { s.bus with busData := 0 } }) ∧
    (s.phase = .running → s.bus.stretched.isSome = true → (c.isBusWrite || c.isBusRead) = true →
      exec c s = .next s)

/-- R155, Table 11.4: where each command finds its arguments. -/
def Obligations.ArgumentsAreRead : Prop :=
  ∀ s : State,
    s.argRect = ⟨(s.arg 0).toNat, (s.arg 1).toNat, (s.arg 2).toNat, (s.arg 3).toNat⟩ ∧
    s.argRequest.rect = s.argRect ∧
    s.argRequest.tag.toNat = (s.arg 4).toNat % 256 ∧ s.argRequest.afterTag.toNat = (s.arg 4).toNat / 256 ∧
    s.argRequest.mode.toNat = (s.arg 5).toNat % 16 ∧
    s.argRequest.notify = (s.arg 5).toNat.testBit 4 ∧ s.argRequest.noPromote = (s.arg 5).toNat.testBit 5 ∧
    s.argTag.toNat = (s.arg 4).toNat % 256 ∧
    s.argTemplate.tag.toNat = (s.arg 4).toNat / 256 ∧ s.argTemplate.mode.toNat = (s.arg 5).toNat % 16 ∧
    s.argTemplate.notify = (s.arg 5).toNat.testBit 4 ∧ s.argTemplate.noPromote = (s.arg 5).toNat.testBit 5 ∧
    (∀ o : Fin 8, s.argOrientation = some o ↔ (s.arg 4).toNat / 8 % 16 = o.val) ∧
    (∀ m : Fin 8, s.argMode = some m ↔ (s.arg 0).toNat % 16 = m.val) ∧
    (s.argPlane = some .target ↔ (s.arg 4).toNat / 2 % 4 = 0) ∧
    (s.argPlane = some .current ↔ (s.arg 4).toNat / 2 % 4 = 1) ∧
    (s.argPlane = some .frozen ↔ (s.arg 4).toNat / 2 % 4 = 2) ∧
    (s.argPlane = none ↔ (s.arg 4).toNat / 2 % 4 = 3)

/-! ### The register window (chapter 11) -/

/-- R156: every configuration register takes every field it carries, each clamped on its own, and shows it as taken;
CONTROL takes its three fields as written, with a pass where AUTO_WAKE becomes set; POLICY starts a pass; the geometry
is never clamped. -/
def Obligations.ConfigurationWrites : Prop :=
  ∀ (s : State) (w : Word), s.takes →
    exec (.registerWrite .frameTime w) s =
      .next { s with config := { s.config with frameTime := max 50 (min 500 w.toNat) } } ∧
    exec (.registerWrite .powerTimes w) s =
      .next { s with config := { s.config with
        riseLimit := max 1 (w.toNat % 256), fallTime := max 1 (w.toNat / 256) } } ∧
    exec (.registerWrite .frameCounts w) s =
      .next { s with config := { s.config with
        idleFrames := w.toNat % 256, dischargeFrames := max 1 (w.toNat / 256) } } ∧
    exec (.registerWrite .scanTemp w) s =
      .next { s with config := { s.config with
        sckDiv := max 2 (min 16 (w.toNat % 256)), tempPeriod := w.toNat / 256 } } ∧
    exec (.policyWrite w) s =
      .next (State.startPass { s with config := { s.config with
        partialLimit := min 15 (w.toNat % 256), cleanMode := ⟨min 7 (w.toNat / 256), by omega⟩ } }).settle ∧
    (∃ page : BitVec 2, page.toNat = w.toNat / 4 % 4 ∧
      exec (.controlWrite w) s =
        .next (if s.bus.autoWake = false ∧ w.toNat.testBit 0 = true then
          (State.startPass { s with bus := { s.bus with
            autoWake := true, dreqEnable := w.toNat.testBit 1, statusPage := page } }).settle
        else { s with bus := { s.bus with
            autoWake := w.toNat.testBit 0, dreqEnable := w.toNat.testBit 1, statusPage := page } })) ∧
    (∀ axis t, exec (.panelGeometryWrite axis w) s = .next t →
      (t.config.panelW = s.config.panelW ∨ t.config.panelW = w.toNat) ∧
      (t.config.panelH = s.config.panelH ∨ t.config.panelH = w.toNat))

/-- R154, R155, R159, R153: a write of COMMAND with an unassigned code is answered UNKNOWN_COMMAND and has no other
effect; an argument word and the two halves of the table index take what is written; a write to a read-only register is
ignored. Table 11.2: the command that each code written to COMMAND names. That a REGISTER_WRITE of a register whose write
has a row of its own acts as that row is the model's choice (log 12). -/
def Obligations.PlainRegisterWrites : Prop :=
  ∀ (s : State) (w : Word), s.takes →
    (assignedCode w = false → exec (.unknownCommand w) s = .next (s.answered w .unknownCommand)) ∧
    (∀ n : Fin 6, exec (.registerWrite (.arg n) w) s =
      .next { s with bus := { s.bus with args := s.bus.args.set n w } }) ∧
    (∃ (sp : BitVec 3) (off : BitVec 20), sp.toNat = w.toNat / 256 % 8 ∧
      off.toNat = w.toNat % 16 * 65536 + s.bus.tableOffset.toNat % 65536 ∧
      exec (.registerWrite .tableIndexHi w) s =
        .next { s with bus := { s.bus with tableSpace := sp, tableOffset := off } }) ∧
    (∃ off : BitVec 20, off.toNat = s.bus.tableOffset.toNat / 65536 * 65536 + w.toNat ∧
      exec (.registerWrite .tableIndexLo w) s = .next { s with bus := { s.bus with tableOffset := off } }) ∧
    (∀ r, (r = .id ∨ r = .status ∨ r = .cmdResult ∨ (∃ n, r = .comp n) ∨ r = .frameCount ∨ r = .tempCode ∨ r = .band
        ∨ r = .revision) → exec (.registerWrite r w) s = .next s) ∧
    (∀ p ∈ ([(0x01, .submit), (0x02, .cancel), (0x03, .cancelAll), (0x04, .pop), (0x05, .loadOpen), (0x06, .loadClose),
        (0x07, .fill), (0x08, .tileSet), (0x09, .modeCheck), (0x0A, .modeErase), (0x0B, .powerUp), (0x0C, .powerDown),
        (0x0D, .clearFault), (0x0E, .sampleTemp), (0x0F, .softReset)] : List (Word × Instr)),
      exec (.registerWrite .command p.1) s = exec p.2 s) ∧
    (w.toNat = 0 ∨ 16 ≤ w.toNat → exec (.registerWrite .command w) s = .next (s.answered w .unknownCommand)) ∧
    exec (.registerWrite .control w) s = exec (.controlWrite w) s ∧
    exec (.registerWrite .event w) s = exec (.eventWrite w) s ∧
    exec (.registerWrite .eventMask w) s = exec (.eventMaskWrite w) s ∧
    exec (.registerWrite .loadData w) s = exec (.loadDataWrite .addressed w) s ∧
    exec (.registerWrite .tableData w) s = exec (.tableDataWrite w) s ∧
    exec (.registerWrite .panelW w) s = exec (.panelGeometryWrite .width w) s ∧
    exec (.registerWrite .panelH w) s = exec (.panelGeometryWrite .height w) s ∧
    exec (.registerWrite .policy w) s = exec (.policyWrite w) s

/-- R153, R154, R158, Tables 11.1, 11.3 and 11.6: what every register but STATUS, LOAD_DATA and TABLE_DATA shows. -/
def Obligations.RegistersShowTheState : Prop :=
  ∀ s : State, s.config.inRange = true →
    let classCode : Option TempClass → Nat := fun c =>
      match c with | none => 8 | some (.band b) => b.val | some .out => 9
    s.readRegister .id = 0x2408 ∧ s.readRegister .revision = 0x0001 ∧
    (s.readRegister .control).toNat =
      flagBit s.bus.autoWake + 2 * flagBit s.bus.dreqEnable + 4 * s.bus.statusPage.toNat ∧
    (s.readRegister .event).toNat = s.events.toNat ∧ (s.readRegister .eventMask).toNat = s.eventMask.toNat ∧
    s.readRegister .command = s.bus.command ∧
    (s.readRegister .cmdResult).toNat = (match s.bus.cmdResult with
      | .accepted => 0 | .queueFull => 1 | .badRect => 2 | .badMode => 3 | .badTag => 4 | .modeNotReady => 5
      | .tagInUse => 6 | .notFound => 7 | .tooLate => 8 | .busy => 9 | .badState => 10 | .empty => 11 | .inUse => 12
      | .badArg => 13 | .unknownCommand => 14) ∧
    (∀ n : Fin 6, s.readRegister (.arg n) = s.bus.args[n]) ∧
    (s.readRegister .tableIndexHi).toNat = s.bus.tableOffset.toNat / 65536 + 256 * s.bus.tableSpace.toNat ∧
    (s.readRegister .tableIndexLo).toNat = s.bus.tableOffset.toNat % 65536 ∧
    (s.completions = [] → ∀ n, s.readRegister (.comp n) = 0) ∧
    (∀ r rest, s.completions = r :: rest → r.framesDriven ≤ 64 →
      (s.readRegister (.comp 0)).toNat =
        r.tag.toNat + 256 * flagBit r.widened + 512 * flagBit r.promoted + 1024 * flagBit r.started
          + 2048 * (match r.outcome with
              | .rejected .bandUnsupported => 1 | .rejected .needsClean => 2 | .rejected .cleanUnavailable => 3
              | _ => 0)
          + 8192 * (match r.outcome with | .done => 0 | .cancelled => 1 | .fault => 2 | .rejected _ => 3) + 32768 ∧
      (s.readRegister (.comp 1)).toNat =
        r.mode.val + 8 * flagBit r.band.isSome + 16 * (match r.band with | some b => b.val | none => 0)
          + 128 * flagBit r.startStamp.isSome + 256 * r.framesDriven ∧
      s.readRegister (.comp 2) = r.startStamp.getD 0 ∧ s.readRegister (.comp 3) = r.endStamp) ∧
    s.readRegister .frameCount = s.frame.counter ∧ (s.readRegister .tempCode).toNat = s.temp.code.toNat ∧
    (s.readRegister .band).toNat =
      classCode s.temp.current + 16 * classCode s.temp.candidate + 256 * classCode s.temp.last
        + 4096 * (match s.temp.reason with | .none => 0 | .below => 1 | .above => 2 | .bandTableBad => 3)
        + 16384 * flagBit s.temp.converting ∧
    (s.readRegister .panelW).toNat = s.config.panelW ∧ (s.readRegister .panelH).toNat = s.config.panelH ∧
    (s.readRegister .frameTime).toNat = s.config.frameTime ∧
    (s.readRegister .powerTimes).toNat = s.config.riseLimit + 256 * s.config.fallTime ∧
    (s.readRegister .frameCounts).toNat = s.config.idleFrames + 256 * s.config.dischargeFrames ∧
    (s.readRegister .policy).toNat = s.config.partialLimit + 256 * s.config.cleanMode.val ∧
    (s.readRegister .scanTemp).toNat = s.config.sckDiv + 256 * s.config.tempPeriod

/-- R157, Table 11.5: a read of STATUS returns the selected page with the two sticky flags, clears both flags, and
changes nothing else. -/
def Obligations.StatusRead : Prop :=
  (∀ s : State, s.takes →
    exec .statusRead s = .next { s with bus := { s.bus with
      busData := s.statusWord, cfgRefused := false, tableRefused := false } }) ∧
  (∀ s : State, s.withinCapacity = true → s.posters.length ≤ 24 →
    ∃ page : Nat, s.statusWord.toNat = page + 16384 * flagBit s.bus.tableRefused + 32768 * flagBit s.bus.cfgRefused ∧
      (s.bus.statusPage = 0 → page =
        (match s.load.state with
          | .closed => 0 | .writing => 1 | .draining => 2 | .reading => 3 | .filling => 4 | .autoPending => 5)
        + 8 * s.load.fifo.length
        + 512 * (match s.load.endReason with | .none => 0 | .complete => 1 | .short => 2 | .discarded => 3)
        + 2048 * (match s.load.errReason with | .none => 0 | .overrun => 1 | .autoRefused => 2)) ∧
      (s.bus.statusPage = 1 → page = s.queue.length + 16 * s.completions.length
        + 512 * (match s.load.loadResult with
          | .accepted => 0 | .queueFull => 1 | .badRect => 2 | .badMode => 3 | .badTag => 4 | .modeNotReady => 5
          | .tagInUse => 6 | .notFound => 7 | .tooLate => 8 | .busy => 9 | .badState => 10 | .empty => 11 | .inUse => 12
          | .badArg => 13 | .unknownCommand => 14)) ∧
      (s.bus.statusPage = 2 → page = s.store.checkMode.val
        + 8 * (match s.store.checkResult with
          | .none => 0 | .ready => 1 | .bad .noBand => 2 | .bad .frameCount => 3 | .bad .rowRange => 4
          | .bad .illegalCode => 5 | .bad .checkWord => 6 | .abandoned => 7)
        + 64 * s.posters.length) ∧
      (s.bus.statusPage = 3 → page =
        (match s.power.state with
          | .off => 0 | .rising => 1 | .on => 2 | .discharging => 3 | .falling => 4 | .fault => 5)
        + 8 * flagBit s.power.downPending + 16 * flagBit s.power.wakePending
        + 32 * (match s.power.faultReason with
          | .none => 0 | .riseTimeout => 1 | .supplyLost => 2 | .fallTimeout => 3)
        + 128 * flagBit s.power.dischargeIncomplete + 256 * flagBit s.pgood))

/-- R149, R150: a write to EVENT clears every flag written with 1 and leaves the others; a write to EVENT_MASK takes
every enable as written; nINT is low while some flag is set and enabled. -/
def Obligations.EventFlagsAndInterrupt : Prop :=
  (∀ (s : State) (w : Word), s.takes →
    ∃ ev, exec (.eventWrite w) s = .next { s with events := ev } ∧
      ∀ i, ev.getLsbD i = (s.events.getLsbD i && !w.getLsbD i)) ∧
  (∀ (s : State) (w : Word), s.takes →
    ∃ m, exec (.eventMaskWrite w) s = .next { s with eventMask := m } ∧
      ∀ i, m.getLsbD i = (decide (i < 10) && w.getLsbD i)) ∧
  (∀ s : State, s.nINT = false ↔ ∃ i, s.events.getLsbD i = true ∧ s.eventMask.getLsbD i = true)

/-! ### Image memory and the tile map (chapter 1) -/

/-- R10: the tile grid, the claim set, full coverage and the union of a claim set. -/
def Obligations.TileGrid : Prop :=
  ∀ (r a : Rect) (w h : Nat), w % 16 = 0 → h % 16 = 0 → r.legal w h = true → a.legal w h = true →
    tileCount w h = (w / 16) * (h / 16) ∧
    (∀ tx ty, tx < w / 16 → ty < h / 16 →
      (r.claims w (ty * (w / 16) + tx) = true ↔
        r.x / 16 ≤ tx ∧ tx ≤ (r.x + r.w - 1) / 16 ∧ r.y / 16 ≤ ty ∧ ty ≤ (r.y + r.h - 1) / 16) ∧
      (r.covers w (ty * (w / 16) + tx) = true ↔
        r.x ≤ 16 * tx ∧ 16 * tx + 15 ≤ r.x + r.w - 1 ∧ r.y ≤ 16 * ty ∧ 16 * ty + 15 ≤ r.y + r.h - 1)) ∧
    (∃ n, n < tileCount w h ∧ r.claims w n = true) ∧
    r.union.x = 16 * (r.x / 16) ∧ r.union.y = 16 * (r.y / 16) ∧
    r.union.x + r.union.w = 16 * ((r.x + r.w - 1) / 16 + 1) ∧
    r.union.y + r.union.h = 16 * ((r.y + r.h - 1) / 16 + 1) ∧
    r.union.legal w h = true ∧
    (∀ n, r.union.claims w n = r.claims w n) ∧
    (∀ n, r.claims w n = true → r.union.covers w n = true) ∧
    (r.union = r ↔ r.x % 16 = 0 ∧ r.y % 16 = 0 ∧ r.w % 16 = 0 ∧ r.h % 16 = 0) ∧
    (r.meets a = true ↔ ∃ n, n < tileCount w h ∧ r.claims w n = true ∧ a.claims w n = true)

/-- R15: TILE_SET. -/
def Obligations.TileSetAnswers : Prop :=
  ∀ s : State, s.takes →
    (s.argRect.legal s.config.panelW s.config.panelH = false →
      exec .tileSet s = .next (s.answered 0x08 .badRect)) ∧
    (s.argRect.legal s.config.panelW s.config.panelH = true →
      (∃ k t, s.tiles[k]? = some t ∧ s.argRect.claims s.config.panelW k = true ∧ t.owner.isSome = true) →
      exec .tileSet s = .next (s.answered 0x08 .busy)) ∧
    (s.argRect.legal s.config.panelW s.config.panelH = true →
      (∀ k t, s.tiles[k]? = some t → s.argRect.claims s.config.panelW k = true → t.owner = none) →
      ∃ ts : List Tile,
        (∀ k, ts[k]? = s.tiles[k]?.map fun t =>
          if s.argRect.claims s.config.panelW k = true then
            (if (s.arg 4).toNat.testBit 0 = true then ⟨t.owner, true, 0⟩ else ⟨t.owner, false, t.count⟩)
          else t) ∧
        exec .tileSet s = .next (if ts = s.tiles then s.answered 0x08 .accepted
          else (State.startPass { s.answered 0x08 .accepted with tiles := ts }).settle))

/-- R16, R17: a geometry write is taken when the part is quiescent and the value programmable, and then resets the tile
map; else it is ignored and sets CFG_REFUSED. -/
def Obligations.GeometryWrites : Prop :=
  ∀ (s : State) (w : Word), s.takes →
    let quiescent := s.power.state = .off ∧ s.queue = [] ∧ (∀ n, (s.slot n).state = .free) ∧ s.load.state = .closed
    let refused : State := { s with bus := { s.bus with cfgRefused := true } }
    (quiescent → w.toNat % 16 = 0 → 64 ≤ w.toNat → w.toNat ≤ 1024 →
      exec (.panelGeometryWrite .width w) s = .next { s with
        config := { s.config with panelW := w.toNat },
        tiles := List.replicate ((w.toNat / 16) * (s.config.panelH / 16)) ⟨none, false, 0⟩ }) ∧
    (quiescent → w.toNat % 16 = 0 → 64 ≤ w.toNat → w.toNat ≤ 768 →
      exec (.panelGeometryWrite .height w) s = .next { s with
        config := { s.config with panelH := w.toNat },
        tiles := List.replicate ((s.config.panelW / 16) * (w.toNat / 16)) ⟨none, false, 0⟩ }) ∧
    (¬(quiescent ∧ w.toNat % 16 = 0 ∧ 64 ≤ w.toNat ∧ w.toNat ≤ 1024) →
      exec (.panelGeometryWrite .width w) s = .next refused) ∧
    (¬(quiescent ∧ w.toNat % 16 = 0 ∧ 64 ≤ w.toNat ∧ w.toNat ≤ 768) →
      exec (.panelGeometryWrite .height w) s = .next refused)

/-! ### Loading and reading image data (chapter 2) -/

/-- R19, R20, Table 2.2: the order of a stream, which visits every pixel of the rectangle once, and its length in
words. -/
def Obligations.StreamOrder : Prop :=
  ∀ r : Rect, 1 ≤ r.w → 1 ≤ r.h →
    (∀ k, k < r.w * r.h →
      streamPixel r 0 k = (r.x + k % r.w, r.y + k / r.w) ∧
      streamPixel r 1 k = (r.x + r.w - 1 - k % r.w, r.y + k / r.w) ∧
      streamPixel r 2 k = (r.x + k % r.w, r.y + r.h - 1 - k / r.w) ∧
      streamPixel r 3 k = (r.x + r.w - 1 - k % r.w, r.y + r.h - 1 - k / r.w) ∧
      streamPixel r 4 k = (r.x + k / r.h, r.y + k % r.h) ∧
      streamPixel r 5 k = (r.x + k / r.h, r.y + r.h - 1 - k % r.h) ∧
      streamPixel r 6 k = (r.x + r.w - 1 - k / r.h, r.y + k % r.h) ∧
      streamPixel r 7 k = (r.x + r.w - 1 - k / r.h, r.y + r.h - 1 - k % r.h)) ∧
    (∀ (o : Fin 8) (x y : Nat), r.contains x y = true → ∃! k, k < r.w * r.h ∧ streamPixel r o k = (x, y)) ∧
    (∀ (o : Fin 8) (k : Nat), k < r.w * r.h →
      r.contains (streamPixel r o k).1 (streamPixel r o k).2 = true) ∧
    r.w * r.h ≤ 4 * r.streamWords ∧ 4 * r.streamWords < r.w * r.h + 4

/-- R21, R27: LOAD_OPEN and FILL, the first matching case giving the result. That a stream window records fill level 0, and
every window the template words as they stand, is the model's choice (log 19). -/
def Obligations.WindowsOpen : Prop :=
  ∀ s : State, s.takes →
    let a4 := (s.arg 4).toNat
    let illegal := s.argRect.legal s.config.panelW s.config.panelH = false
    exec .loadOpen s = .next (
      if s.load.state ≠ .closed then s.answered 0x05 .busy
      else if illegal then s.answered 0x05 .badRect
      else if 8 ≤ a4 / 8 % 16 ∨ a4 / 2 % 4 = 3 ∨ (a4 % 2 = 0 ∧ a4 / 2 % 4 ≠ 0) then s.answered 0x05 .badArg
      else { s.answered 0x05 .accepted with load := { s.load with
        state := if a4 % 2 = 1 then .reading else .writing
        direction := if a4 % 2 = 1 then .read else .write
        plane := if a4 / 2 % 4 = 0 then .target else if a4 / 2 % 4 = 1 then .current else .frozen
        rect := s.argRect
        orientation := Fin.ofNat 8 (a4 / 8)
        streamCount := s.argRect.streamWords
        remaining := s.argRect.w * s.argRect.h
        closeRequested := false
        autoSubmit := decide (a4 % 2 = 0) && a4.testBit 7
        template := s.argTemplate
        fillLevel := 0, fifo := [], wordPos := 0, assembled := [], retriesOwed := 0 } }) ∧
    ∃ level : Level, level.toNat = a4 % 16 ∧ exec .fill s = .next (
      if s.load.state ≠ .closed then s.answered 0x07 .busy
      else if illegal then s.answered 0x07 .badRect
      else { s.answered 0x07 .accepted with load := { s.load with
        state := .filling, direction := .fill, plane := .target, rect := s.argRect, orientation := 0
        streamCount := 0
        remaining := s.argRect.w * s.argRect.h
        closeRequested := false
        autoSubmit := a4.testBit 7
        template := s.argTemplate
        fillLevel := level
        fifo := [], wordPos := 0, assembled := [], retriesOwed := 0 } })

/-- R32: LOAD_CLOSE, by the engine's state. -/
def Obligations.LoadCloseAnswers : Prop :=
  ∀ s : State, s.takes →
    let ended (r : EndReason) : State :=
      { s.answered 0x06 .accepted with
        load := { LoadEngine.reset with endReason := r, errReason := s.load.errReason, loadResult := s.load.loadResult }
        events := s.events ||| (1#10 <<< 2) }
    exec .loadClose s = .next (
      match s.load.state with
      | .writing =>
        if s.load.fifo = [] then ended .short
        else { s.answered 0x06 .accepted with
          load := { s.load with state := .draining, closeRequested := true, streamCount := 0 } }
      | .draining | .filling => s.answered 0x06 .busy
      | .reading => ended .short
      | .autoPending => ended .discarded
      | .closed => s.answered 0x06 .badState)

/-- R22, R24, R26, R34: LOAD_DATA, by address or by nDACK. -/
def Obligations.StreamPortAccesses : Prop :=
  ∀ (s : State) (port : StreamPort) (w : Word), s.takes →
    (s.load.state = .writing → s.load.fifo.length < 32 →
      exec (.loadDataWrite port w) s = .next { s with load := { s.load with
        fifo := s.load.fifo ++ [w], streamCount := s.load.streamCount - 1,
        state := if s.load.streamCount ≤ 1 then .draining else .writing } }) ∧
    (s.load.state = .writing → 32 ≤ s.load.fifo.length →
      exec (.loadDataWrite port w) s = .next { s with bus := { s.bus with stretched := some (.write w) } }) ∧
    (s.load.state ≠ .writing →
      exec (.loadDataWrite port w) s = .next { s with
        load := { s.load with errReason := .overrun }, events := s.events ||| (1#10 <<< 3) }) ∧
    (∀ head rest, s.load.state = .reading → s.load.fifo = head :: rest → 1 < s.load.streamCount →
      exec (.loadDataRead port) s = .next { s with
        bus := { s.bus with busData := head },
        load := { s.load with fifo := rest, streamCount := s.load.streamCount - 1 } }) ∧
    (∀ head rest, s.load.state = .reading → s.load.fifo = head :: rest → s.load.streamCount ≤ 1 →
      exec (.loadDataRead port) s = .next { s with
        bus := { s.bus with busData := head },
        load := { LoadEngine.reset with
          endReason := .complete, errReason := s.load.errReason, loadResult := s.load.loadResult },
        events := s.events ||| (1#10 <<< 2) }) ∧
    (s.load.state = .reading → s.load.fifo = [] →
      exec (.loadDataRead port) s = .next { s with bus := { s.bus with stretched := some .read } }) ∧
    (s.load.state ≠ .reading →
      exec (.loadDataRead port) s = .next { s with
        bus := { s.bus with busData := 0 },
        load := { s.load with errReason := .overrun }, events := s.events ||| (1#10 <<< 3) })

/-- R22, R23: a stretched write completes when a word has left the full FIFO: the pixels of the head word still to be
written take their nibbles in TARGET and no other pixel changes, the stretched word joins the tail, nWAIT is released.
R25, R26: a stretched read completes when prefetch has placed a word, which is delivered: the levels of the word's
pixels as the plane holds them, 0 beyond the last stream position; the last word closes the window (its cleared record:
log 19). While the memory job list holds a job, an access that needs one of the engine's own stays stretched (R7); where
it needs one, the scan reads that wait are served before it (R6). That the completion serves what it needs in its own
step is the model's choice (log 7, log 18). -/
def Obligations.StretchedAccessesComplete : Prop :=
  (∀ (s : State) (w : Word), s.runs → s.bus.stretched = some (.write w) →
    (∀ head rest, s.load.state = .writing → s.load.fifo = head :: rest → s.load.fifo.length = 32 → s.jobs = [] →
      s.load.wordPos < min 4 s.load.remaining →
      let place (i : Nat) := streamPixel s.load.rect s.load.orientation (s.load.position + s.load.wordPos + i)
      let left := min 4 s.load.remaining - s.load.wordPos
      ∃ t, exec .stretchedWriteComplete s = .next t ∧
        t.bus = { s.bus with stretched := none } ∧ t.nWait = true ∧
        t.load = { s.load with
          fifo := rest ++ [w], wordPos := 0, remaining := s.load.remaining - min 4 s.load.remaining,
          streamCount := s.load.streamCount - 1,
          state := if s.load.streamCount ≤ 1 then .draining else .writing } ∧
        (s.load.rect.legal 1024 768 = true → s.load.remaining ≤ s.load.rect.w * s.load.rect.h →
          (∀ i, i < left →
            (t.pixel .target (place i).1 (place i).2).toNat = head.toNat / 16 ^ (s.load.wordPos + i) % 16) ∧
          (∀ p x y, x < 1024 → (p ≠ .target ∨ ∀ i, i < left → (x, y) ≠ place i) → t.pixel p x y = s.pixel p x y)) ∧
        { t with bus := s.bus, load := s.load, image := s.image } = s.serveScanReads) ∧
    (s.load.fifo.length < 32 → s.load.state = .writing →
      exec .stretchedWriteComplete s = .next { s with
        bus := { s.bus with stretched := none },
        load := { s.load with
          fifo := s.load.fifo ++ [w], streamCount := s.load.streamCount - 1,
          state := if s.load.streamCount ≤ 1 then .draining else .writing } }) ∧
    (32 ≤ s.load.fifo.length → s.jobs ≠ [] → exec .stretchedWriteComplete s = .next s)) ∧
  (∀ s : State, s.runs → s.bus.stretched = some .read → s.load.state = .reading →
    let closed : LoadEngine := { LoadEngine.reset with
      endReason := .complete, errReason := s.load.errReason, loadResult := s.load.loadResult }
    (∀ head rest, s.load.fifo = head :: rest →
      (1 < s.load.streamCount →
        exec .stretchedReadComplete s = .next { s with
          bus := { s.bus with stretched := none, busData := head },
          load := { s.load with fifo := rest, streamCount := s.load.streamCount - 1 } }) ∧
      (s.load.streamCount ≤ 1 →
        exec .stretchedReadComplete s = .next { s with
          bus := { s.bus with stretched := none, busData := head }, load := closed,
          events := s.events ||| (1#10 <<< 2) })) ∧
    (s.load.fifo = [] → s.jobs ≠ [] → exec .stretchedReadComplete s = .next s) ∧
    (s.load.fifo = [] → s.jobs = [] → s.load.assembled.length < min 4 s.load.remaining →
      ∃ t, ∃ head : Word, exec .stretchedReadComplete s = .next t ∧
        t.bus = { s.bus with stretched := none, busData := head } ∧ t.nWait = true ∧
        (∀ i, i < 4 → (head.toNat / 16 ^ i) % 16 =
          match s.load.assembled[i]? with
          | some l => l.toNat
          | none =>
            if i < s.load.remaining then
              (s.pixel s.load.plane (streamPixel s.load.rect s.load.orientation (s.load.position + i)).1
                (streamPixel s.load.rect s.load.orientation (s.load.position + i)).2).toNat
            else 0) ∧
        (1 < s.load.streamCount → t.events = s.events ∧ t.load = { s.load with
          assembled := [], remaining := s.load.remaining - min 4 s.load.remaining,
          streamCount := s.load.streamCount - 1 }) ∧
        (s.load.streamCount ≤ 1 → t.load = closed ∧ t.events = s.events ||| (1#10 <<< 2)) ∧
        { t with bus := s.bus, load := s.load, events := s.events } = s.serveScanReads))

/-- R6, R23: the Load Engine's quad write of a write window, served while no scan read waits and the memory job list is
empty: the next pixels of the head word that share a quad take their nibbles, in TARGET alone; the word leaves the FIFO
with its last pixel. -/
def Obligations.StreamWriteAccess : Prop :=
  ∀ (s : State) (head : Word) (rest : List Word), s.runs →
    (∀ sc, s.scan = some sc → s.scanQuad sc = none) → s.jobs = [] →
    (s.load.state = .writing ∨ s.load.state = .draining) → s.load.fifo = head :: rest →
    s.load.rect.legal 1024 768 = true → s.load.remaining ≤ s.load.rect.w * s.load.rect.h →
    s.load.wordPos < min 4 s.load.remaining →
    let place (i : Nat) := streamPixel s.load.rect s.load.orientation (s.load.position + s.load.wordPos + i)
    let left := min 4 s.load.remaining - s.load.wordPos
    ∃ t, ∃ n, exec .quadAccess s = .next t ∧ 1 ≤ n ∧ n ≤ left ∧
      (∀ i, i < n → (place i).2 = (place 0).2 ∧ (place i).1 / 4 = (place 0).1 / 4) ∧
      (n < left → ¬((place n).2 = (place 0).2 ∧ (place n).1 / 4 = (place 0).1 / 4)) ∧
      (∀ i, i < n → (t.pixel .target (place i).1 (place i).2).toNat = head.toNat / 16 ^ (s.load.wordPos + i) % 16) ∧
      (∀ p x y, x < 1024 → (p ≠ .target ∨ ∀ i, i < n → (x, y) ≠ place i) → t.pixel p x y = s.pixel p x y) ∧
      t.load = (if n = left then
          { s.load with fifo := rest, wordPos := 0, remaining := s.load.remaining - min 4 s.load.remaining }
        else { s.load with wordPos := s.load.wordPos + n }) ∧
      { t with image := s.image, load := s.load } = s

/-- R6, R25: the Load Engine's quad read of a read window, served under the same conditions: the next pixels of the word
being prefetched that share a quad; no plane changes. -/
def Obligations.PrefetchAccess : Prop :=
  ∀ s : State, s.runs → (∀ sc, s.scan = some sc → s.scanQuad sc = none) → s.jobs = [] →
    s.load.state = .reading → s.load.fifo.length < 32 → s.load.assembled.length < min 4 s.load.remaining →
    let place (i : Nat) := streamPixel s.load.rect s.load.orientation
      (s.load.position + s.load.assembled.length + i)
    let left := min 4 s.load.remaining - s.load.assembled.length
    ∃ n, 1 ≤ n ∧ n ≤ left ∧
      (∀ i, i < n → (place i).2 = (place 0).2 ∧ (place i).1 / 4 = (place 0).1 / 4) ∧
      (n < left → ¬((place n).2 = (place 0).2 ∧ (place n).1 / 4 = (place 0).1 / 4)) ∧
      exec .quadAccess s = .next { s with load :=
        let got := s.load.assembled ++ (List.range n).map fun i => s.pixel s.load.plane (place i).1 (place i).2
        if n = left then
          { s.load with
            fifo := s.load.fifo ++ [packLevels got], assembled := [],
            remaining := s.load.remaining - min 4 s.load.remaining }
        else { s.load with assembled := got } }

/-- R6, R28, R29: a fill's quad write, which carries the next pixels of its row that share a quad; and the end of a fill:
every pixel it had still to reach holds the fill level in TARGET and no other pixel has changed. Without auto-submit the
engine closes with LOAD_END; with or without it, the end is that of a fill with nothing left to write (`WindowEndings`).
That the end first serves the remaining accesses, after the scan reads that wait, and serves none while the memory job
list holds a job, is the model's choice (log 7, log 18), and so are the zeros of the cleared record (log 19). -/
def Obligations.FillReachesEveryPixel : Prop :=
  ∀ s : State, s.runs → s.load.state = .filling →
    (s.jobs ≠ [] → s.load.remaining ≠ 0 → exec .fillEnd s = .next s) ∧
    (s.jobs = [] → s.load.rect.legal 1024 768 = true → s.load.orientation = 0 →
      s.load.remaining ≤ s.load.rect.w * s.load.rect.h →
      let served := if s.load.remaining = 0 then s else s.serveScanReads
      let filled (t : State) : Prop :=
        (∀ x y, x < 1024 → t.pixel .target x y =
          if s.load.rect.contains x y = true ∧
              s.load.position ≤ (y - s.load.rect.y) * s.load.rect.w + (x - s.load.rect.x) then s.load.fillLevel
          else s.pixel .target x y) ∧
        (∀ x y, t.pixel .current x y = s.pixel .current x y ∧ t.pixel .frozen x y = s.pixel .frozen x y)
      (let place (i : Nat) := streamPixel s.load.rect 0 (s.load.position + i)
        let left := min 4 s.load.remaining
        (∀ sc, s.scan = some sc → s.scanQuad sc = none) → 0 < s.load.remaining →
        ∃ t, ∃ n, exec .quadAccess s = .next t ∧ 1 ≤ n ∧ n ≤ left ∧
          (∀ i, i < n → (place i).2 = (place 0).2 ∧ (place i).1 / 4 = (place 0).1 / 4) ∧
          (n < left → ¬((place n).2 = (place 0).2 ∧ (place n).1 / 4 = (place 0).1 / 4)) ∧
          (∀ i, i < n → t.pixel .target (place i).1 (place i).2 = s.load.fillLevel) ∧
          (∀ p x y, x < 1024 → (p ≠ .target ∨ ∀ i, i < n → (x, y) ≠ place i) → t.pixel p x y = s.pixel p x y) ∧
          t.load = { s.load with remaining := s.load.remaining - n } ∧
          { t with image := s.image, load := s.load } = s) ∧
      (s.load.autoSubmit = false →
        ∃ t, exec .fillEnd s = .next t ∧ filled t ∧
          t.load = { LoadEngine.reset with
            endReason := .complete, errReason := s.load.errReason, loadResult := s.load.loadResult } ∧
          t.events = s.events ||| (1#10 <<< 2) ∧
          { t with image := s.image, load := s.load, events := s.events } = served) ∧
      (∃ u : State, exec .fillEnd s = exec .fillEnd u ∧ u.runs ∧ filled u ∧
        u.load = { s.load with remaining := 0 } ∧ { u with image := s.image, load := s.load } = served))

/-- R20, R23, R29, R32: a drain that runs to its end has written every word of the FIFO to TARGET, each nibble not yet
written at its stream position and no nibble beyond the last one, and no other pixel. Without a presentation it closes
with LOAD_END, SHORT where the close was requested and COMPLETE otherwise; with or without one, the end is that of a drain
whose FIFO is empty (`WindowEndings`). That the end first serves the remaining accesses, after the scan reads that wait,
and serves none while the memory job list holds a job, is the model's choice (log 7, log 18), and so are the zeros of the
cleared record (log 19). -/
def Obligations.DrainWritesEveryWord : Prop :=
  ∀ s : State, s.runs → s.load.state = .draining →
    (s.jobs ≠ [] → s.load.fifo ≠ [] → exec .drainEnd s = .next s) ∧
    (s.jobs = [] → s.load.rect.legal 1024 768 = true → s.load.remaining ≤ s.load.rect.w * s.load.rect.h →
      (s.load.wordPos = 0 ∨ (s.load.fifo ≠ [] ∧ s.load.wordPos < min 4 s.load.remaining)) →
      4 * s.load.fifo.length < s.load.remaining + 4 →
      let count := min s.load.remaining (4 * s.load.fifo.length)
      let place (k : Nat) := streamPixel s.load.rect s.load.orientation (s.load.position + k)
      let served := if s.load.fifo = [] then s else s.serveScanReads
      let written (t : State) : Prop :=
        (∀ k w, s.load.wordPos ≤ k → k < count → s.load.fifo[k / 4]? = some w →
          (t.pixel .target (place k).1 (place k).2).toNat = w.toNat / 16 ^ (k % 4) % 16) ∧
        (∀ p x y, x < 1024 → (p ≠ .target ∨ ∀ k, s.load.wordPos ≤ k → k < count → (x, y) ≠ place k) →
          t.pixel p x y = s.pixel p x y)
      (s.load.closeRequested = true ∨ s.load.autoSubmit = false →
        ∃ t, exec .drainEnd s = .next t ∧ written t ∧
          t.load = { LoadEngine.reset with
            endReason := if s.load.closeRequested = true then .short else .complete
            errReason := s.load.errReason, loadResult := s.load.loadResult } ∧
          t.events = s.events ||| (1#10 <<< 2) ∧
          { t with image := s.image, load := s.load, events := s.events } = served) ∧
      (∃ u : State, exec .drainEnd s = exec .drainEnd u ∧ u.runs ∧ written u ∧
        u.load = { s.load with fifo := [], wordPos := 0, remaining := s.load.remaining - count } ∧
        { u with image := s.image, load := s.load } = served))

/-- R29, R30, R31, R32: the end of a drain and of a fill, and a presentation brought by a QROOM: the short ending, the
completion without auto-submit, and the three outcomes of a presentation. That a QROOM's presentation is owed until
AUTO_PRESENTATION_RETRY makes it, one for each, is the model's choice (log 20), and so is that an event whose condition does not hold
changes nothing (log 6) and that the cleared record holds zeros (log 19). -/
def Obligations.WindowEndings : Prop :=
  ∀ s : State, s.runs →
    let shut (l : LoadEngine) : LoadEngine :=
      { LoadEngine.reset with endReason := l.endReason, errReason := l.errReason, loadResult := l.loadResult }
    let ended (r : EndReason) : State :=
      { s with load := { shut s.load with endReason := r }, events := s.events ||| (1#10 <<< 2) }
    let offered : Request := ⟨s.load.template.tag, 0, s.load.rect, s.load.template.mode, s.load.template.notify,
      s.load.template.noPromote⟩
    let presented : Nat → Answer → Prop := fun owed a =>
      (s.checkRequest offered = .accepted → ∃ m : Fin 8, m.val = s.load.template.mode.toNat ∧
        a = .next (State.startPass { ended .complete with queue := s.queue ++
          [⟨offered.tag, offered.rect, m, offered.notify, offered.noPromote, 0, .waiting, false⟩] })) ∧
      (s.checkRequest offered = .queueFull →
        a = .next { s with load := { s.load with state := .autoPending, retriesOwed := owed } }) ∧
      (∀ r, s.checkRequest offered = r → r ≠ .accepted → r ≠ .queueFull →
        a = .next { s with
          load := { shut s.load with errReason := .autoRefused, loadResult := r },
          events := s.events ||| (1#10 <<< 3) })
    (s.load.state = .draining → s.load.fifo = [] → s.load.closeRequested = true →
      exec .drainEnd s = .next (ended .short)) ∧
    (s.load.state = .draining → s.load.fifo = [] → s.load.closeRequested = false → s.load.autoSubmit = false →
      exec .drainEnd s = .next (ended .complete)) ∧
    (s.load.state = .draining → s.load.fifo = [] → s.load.closeRequested = false → s.load.autoSubmit = true →
      presented s.load.retriesOwed (exec .drainEnd s)) ∧
    (s.load.state ≠ .draining → exec .drainEnd s = .next s) ∧
    (s.load.state = .filling → s.load.remaining = 0 → s.load.autoSubmit = false →
      exec .fillEnd s = .next (ended .complete)) ∧
    (s.load.state = .filling → s.load.remaining = 0 → s.load.autoSubmit = true →
      presented s.load.retriesOwed (exec .fillEnd s)) ∧
    (s.load.state ≠ .filling → exec .fillEnd s = .next s) ∧
    (s.load.state = .autoPending → 0 < s.load.retriesOwed →
      presented (s.load.retriesOwed - 1) (exec .autoPresentationRetry s)) ∧
    (s.load.state ≠ .autoPending ∨ s.load.retriesOwed = 0 → exec .autoPresentationRetry s = .next s)

/-! ### The Waveform Store (chapter 3) and the table port -/

/-- R39, R40, R41: the drive lookup, the first case that applies, and where the tables hold what it reads. -/
def Obligations.DriveLookup : Prop :=
  ∀ (s : State) (m b : Fin 8) (i : Nat) (f t : Level),
    ((s.mode m).changedOnly = true → f = t → s.driveLookup m b i f t = .neutral) ∧
    (s.pairEntry m b (f.toNat * 16 + t.toNat) = none → s.driveLookup m b i f t = .neutral) ∧
    (∀ o, ¬((s.mode m).changedOnly = true ∧ f = t) → s.pairEntry m b (f.toNat * 16 + t.toNat) = some o →
      s.driveLookup m b i f t = s.rowCode ((s.mode m).rowBase.toNat + o.toNat) i) ∧
    (∀ k, s.pairEntry m b k = s.pairAt (2048 * m.val + 256 * b.val + k)) ∧
    (∀ r k j, j < 8 → (s.rowCode r (8 * k + j)).bits = (s.rowWordAt (8 * r + k)).toNat / 4 ^ j % 4)

/-- R38, R39, R40, R45, R46, R47, R52: a write to table spaces 0 to 2. Ignored where the word is not writable; refused
whole while an affected mode is in use; else performed, with every affected mode reopened and a check of one of them
abandoned and reported. The offset advances in every case. -/
def Obligations.TableWritesAffectModes : Prop :=
  ∀ (s : State) (w : Word), s.takes → s.bus.tableSpace.toNat ≤ 2 →
    let sp := s.bus.tableSpace.toNat
    let off := s.bus.tableOffset.toNat
    let writable := if sp = 0 then off < 128 ∧ off % 16 < 12 else off < 16384
    let affected := s.affectedModes sp off
    let advanced := { s.bus with tableOffset := s.bus.tableOffset + 1 }
    (¬writable → exec (.tableDataWrite w) s = .next { s with bus := advanced }) ∧
    (writable → (∃ m ∈ affected, s.inUse m ≠ 0) →
      exec (.tableDataWrite w) s = .next { s with
        bus := { advanced with tableRefused := true }, events := s.events ||| (1#10 <<< 5) }) ∧
    (writable → (∀ m ∈ affected, s.inUse m = 0) →
      ∃ t, exec (.tableDataWrite w) s = .next t ∧ t.bus = advanced ∧
        (t.tableWord sp off).toNat =
          (if sp = 0 then w.toNat % 2 ^ (if off % 16 = 0 then 4 else if off % 16 = 1 then 11
              else if off % 16 = 2 then 12 else if off % 16 = 3 then 8 else 7)
            else if sp = 1 then min w.toNat 2048 else w.toNat) ∧
        (∀ sp' off', sp' ≤ 2 → (sp', off') ≠ (sp, off) → (sp' = 0 → off' % 16 ≠ 13) →
          t.tableWord sp' off' = s.tableWord sp' off') ∧
        (∀ m ∈ affected, (t.mode m).state = .opened ∧ (t.mode m).badReason = none) ∧
        (∀ m, m ∉ affected → t.mode m = s.mode m) ∧
        ((∀ m ∈ affected, (s.mode m).state ≠ .checking) →
          t.events = s.events ∧ t.store.checkMode = s.store.checkMode ∧ t.store.checkResult = s.store.checkResult) ∧
        (∀ m ∈ affected, (s.mode m).state = .checking → (∀ m', (s.mode m').state = .checking → m' = m) →
          t.events = s.events ||| (1#10 <<< 4) ∧ t.store.checkMode = m ∧ t.store.checkResult = .abandoned) ∧
        { t with bus := s.bus, store := s.store, events := s.events } = s)

/-- R137, R159, R160: a write to the band table is taken at once; a write to spaces 4 to 6 changes nothing and raises
TABLE_ERR; one to space 7 is ignored. A read returns the word, which is 0 beyond the size of its space, and changes
nothing else. Every access advances the offset within its space. Table 11.7: every word of the seven spaces, its codes
spelled out. -/
def Obligations.TablePortReadsAndViews : Prop :=
  ∀ (s : State) (w : Word), s.takes →
    let off := s.bus.tableOffset.toNat
    let advanced := { s.bus with tableOffset := s.bus.tableOffset + 1 }
    (s.bus.tableOffset + 1).toNat = (off + 1) % 1048576 ∧
    (s.bus.tableSpace = 3 →
      ∃ t : TempUnit, exec (.bandTableWrite w) s = .next { s with bus := advanced, temp := t } ∧
        t.lowLimit.toNat = (if off = 0 then w.toNat % 1024 else s.temp.lowLimit.toNat) ∧
        t.bandCount.toNat = (if off = 1 then w.toNat % 16 else s.temp.bandCount.toNat) ∧
        (∀ b : Fin 8, (t.upper[b]).toNat = if off = 2 + b.val then w.toNat % 2048 else (s.temp.upper[b]).toNat) ∧
        { t with lowLimit := s.temp.lowLimit, bandCount := s.temp.bandCount, upper := s.temp.upper } = s.temp) ∧
    (4 ≤ s.bus.tableSpace.toNat → s.bus.tableSpace.toNat ≤ 6 →
      exec (.readOnlySpaceWrite w) s = .next { s with bus := advanced, events := s.events ||| (1#10 <<< 5) }) ∧
    (s.bus.tableSpace = 7 → exec (.readOnlySpaceWrite w) s = .next { s with bus := advanced }) ∧
    exec .tableDataRead s = .next { s with bus := { advanced with
      busData := s.tableWord s.bus.tableSpace.toNat off } } ∧
    (∀ k, 128 ≤ k → s.tableWord 0 k = 0) ∧ (∀ k, 16384 ≤ k → s.tableWord 1 k = 0 ∧ s.tableWord 2 k = 0) ∧
    (∀ k, 10 ≤ k → s.tableWord 3 k = 0) ∧ (∀ k, s.tiles.length ≤ k → s.tableWord 4 k = 0) ∧
    (∀ k, 256 ≤ k → s.tableWord 5 k = 0) ∧ (∀ k, 8 * s.queue.length ≤ k → s.tableWord 6 k = 0) ∧
    (∀ k, s.tableWord 7 k = 0) ∧
    (∀ k t, s.tiles[k]? = some t → t.count ≤ 15 →
      (s.tableWord 4 k).toNat = (match t.owner with | some n => n.val + 16 | none => 0) + 32 * flagBit t.known
        + 256 * t.count) ∧
    (∀ m : Fin 8,
      let d := s.mode m
      let base := 16 * m.val
      (s.tableWord 0 base).toNat = d.levelCode.toNat + 4 * flagBit d.flash + 8 * flagBit d.changedOnly ∧
      (s.tableWord 0 (base + 1)).toNat = d.rowBase.toNat ∧ (s.tableWord 0 (base + 2)).toNat = d.rowCount.toNat ∧
      (s.tableWord 0 (base + 3)).toNat = d.bandSet.toNat ∧
      (∀ b : Fin 8, (s.tableWord 0 (base + 4 + b.val)).toNat = (d.frameCounts[b]).toNat) ∧
      s.tableWord 0 (base + 12) = d.checkWord ∧
      (s.tableWord 0 (base + 13)).toNat =
        (match d.state with | .empty => 0 | .opened => 1 | .checking => 2 | .ready => 3 | .bad => 4)
          + 16 * (match d.badReason with
            | none => 0 | some .noBand => 1 | some .frameCount => 2 | some .rowRange => 3 | some .illegalCode => 4
            | some .checkWord => 5) ∧
      (s.queue.length ≤ 8 → (s.tableWord 0 (base + 14)).toNat = s.inUse m) ∧ s.tableWord 0 (base + 15) = 0) ∧
    (∀ k, k < 16384 →
      (s.tableWord 1 k).toNat = (match s.pairAt k with | none => 0 | some o => o.toNat + 1) ∧
      s.tableWord 2 k = s.rowWordAt k) ∧
    (s.tableWord 3 0).toNat = s.temp.lowLimit.toNat ∧ (s.tableWord 3 1).toNat = s.temp.bandCount.toNat ∧
    (∀ b : Fin 8, (s.tableWord 3 (2 + b.val)).toNat = (s.temp.upper[b]).toNat) ∧
    (∀ (n : Fin 16) k, k < 16 → (s.slot n).state = .free → s.tableWord 5 (16 * n.val + k) = 0) ∧
    (∀ n : Fin 16, (s.slot n).state ≠ .free →
      let sl := s.slot n
      let base := 16 * n.val
      (sl.rect.legal 1024 768 = true →
        (s.tableWord 5 (base + 1)).toNat = sl.rect.x ∧ (s.tableWord 5 (base + 2)).toNat = sl.rect.y ∧
        (s.tableWord 5 (base + 3)).toNat = sl.rect.w ∧ (s.tableWord 5 (base + 4)).toNat = sl.rect.h) ∧
      (s.tableWord 5 (base + 5)).toNat = sl.mode.val + 16 * sl.band.val + 256 * flagBit sl.promoted
        + 512 * flagBit sl.widened + 1024 * flagBit sl.notify + 2048 * flagBit sl.startStamp.isSome ∧
      (sl.frameTotal ≤ 64 → sl.frameIndex ≤ 64 →
        (s.tableWord 5 (base + 6)).toNat = sl.frameTotal + 256 * sl.frameIndex) ∧
      (sl.framesDriven ≤ 64 → (s.tableWord 5 (base + 7)).toNat = sl.framesDriven) ∧
      s.tableWord 5 (base + 8) = sl.startStamp.getD 0 ∧
      (∀ k, 9 ≤ k → k < 16 → s.tableWord 5 (base + k) = 0) ∧
      (s.tableWord 5 base).toNat =
        (match sl.state with | .free => 0 | .starting => 1 | .driving => 2 | .committing => 3 | .ending => 4)
        + 16 * (match (s.slot n).outcome with | none => 0 | some .done => 1 | some .cancelled => 2 | some .fault => 3)
        + 64 * flagBit (s.slot n).snapshotDone + 128 * flagBit (s.slot n).drivenAnything
        + 256 * (s.slot n).tag.toNat) ∧
    (∀ i e, i < 8 → s.queue[i]? = some e →
      (s.tableWord 6 (8 * i)).toNat = e.tag.toNat + 256 * e.afterTag.toNat ∧
      (s.tableWord 6 (8 * i + 1)).toNat =
        (match e.state with
          | .waiting => 1 | .withdrawn => 2 | .rejecting .bandUnsupported => 3 + 4
          | .rejecting .needsClean => 3 + 8 | .rejecting .cleanUnavailable => 3 + 12)
          + 16 * e.mode.val + 128 * flagBit e.notify + 256 * flagBit e.noPromote ∧
      (e.rect.legal 1024 768 = true →
        (s.tableWord 6 (8 * i + 2)).toNat = e.rect.x ∧ (s.tableWord 6 (8 * i + 3)).toNat = e.rect.y ∧
        (s.tableWord 6 (8 * i + 4)).toNat = e.rect.w ∧ (s.tableWord 6 (8 * i + 5)).toNat = e.rect.h) ∧
      s.tableWord 6 (8 * i + 6) = 0 ∧ s.tableWord 6 (8 * i + 7) = 0)

/-- R48, R53: MODE_CHECK and MODE_ERASE, the first matching case giving the result. -/
def Obligations.ModeCheckAndErase : Prop :=
  ∀ s : State, s.takes →
    (8 ≤ (s.arg 0).toNat % 16 →
      exec .modeCheck s = .next (s.answered 0x09 .badMode) ∧ exec .modeErase s = .next (s.answered 0x0A .badMode)) ∧
    ∀ m : Fin 8, (s.arg 0).toNat % 16 = m.val →
      (s.inUse m ≠ 0 →
        exec .modeCheck s = .next (s.answered 0x09 .inUse) ∧ exec .modeErase s = .next (s.answered 0x0A .inUse)) ∧
      (s.inUse m = 0 → (∃ m', (s.mode m').state = .checking) →
        exec .modeCheck s = .next (s.answered 0x09 .busy)) ∧
      (s.inUse m = 0 → (∀ m', (s.mode m').state ≠ .checking) →
        ∃ t, exec .modeCheck s = .next t ∧
          t.mode m = { s.mode m with state := .checking, badReason := none, checkWord := s.arg 1 } ∧
          (∀ m', m' ≠ m → t.mode m' = s.mode m') ∧
          { t with store := { t.store with modes := s.store.modes } } = s.answered 0x09 .accepted) ∧
      (s.inUse m = 0 → (s.mode m).state = .checking → exec .modeErase s = .next (s.answered 0x0A .busy)) ∧
      (s.inUse m = 0 → (s.mode m).state ≠ .checking →
        ∃ t, exec .modeErase s = .next t ∧
          t.mode m = ⟨.empty, none, 0, false, false, 0, 0, 0, Vector.replicate 8 0, 0⟩ ∧
          (∀ m', m' ≠ m → t.mode m' = s.mode m') ∧
          { t with store := { t.store with modes := s.store.modes } } = s.answered 0x0A .accepted)

/-- R49, R50: a check finds the first defect in the order of its passes; and what the check word sum adds up, for a row
range that lies in the pool. -/
def Obligations.CheckFindsTheFirstDefect : Prop :=
  ∀ (s : State) (m : Fin 8),
    let d := s.mode m
    let noBand := ∀ b : Fin 8, d.bandSet.getLsbD b = false
    let frameCount := ∃ b : Fin 8, d.bandSet.getLsbD b = true ∧
      ((d.frameCounts[b]).toNat < 1 ∨ 64 < (d.frameCounts[b]).toNat)
    let rowRange := d.rowCount.toNat = 0 ∨ 2048 < d.rowBase.toNat + d.rowCount.toNat
    let entryRange := ∃ b : Fin 8, d.bandSet.getLsbD b = true ∧ ∃ i o, i < 256 ∧ s.pairEntry m b i = some o ∧
      d.rowCount.toNat ≤ o.toNat
    let ground := ∃ b : Fin 8, d.bandSet.getLsbD b = true ∧ ∃ i o k, i < 256 ∧ s.pairEntry m b i = some o ∧
      k < (d.frameCounts[b]).toNat ∧ s.rowCode (d.rowBase.toNat + o.toNat) k = .ground
    (noBand → s.checkDefect m = some .noBand) ∧
    (¬noBand → frameCount → s.checkDefect m = some .frameCount) ∧
    (¬noBand → ¬frameCount → rowRange → s.checkDefect m = some .rowRange) ∧
    (¬noBand → ¬frameCount → ¬rowRange → entryRange → s.checkDefect m = some .rowRange) ∧
    (¬noBand → ¬frameCount → ¬rowRange → ¬entryRange → ground → s.checkDefect m = some .illegalCode) ∧
    (¬noBand → ¬frameCount → ¬rowRange → ¬entryRange → ¬ground →
      s.checkDefect m = if s.checkSum m = d.checkWord then none else some .checkWord) ∧
    (d.rowBase.toNat + d.rowCount.toNat ≤ 2048 →
      (s.checkSum m).toNat = (d.levelCode.toNat + (flagBit d.flash + 2 * flagBit d.changedOnly) + d.rowBase.toNat
        + d.rowCount.toNat + d.bandSet.toNat
        + (∑ b : Fin 8, if d.bandSet.getLsbD b = true then
            (d.frameCounts[b]).toNat + ∑ i ∈ Finset.range 256,
              (match s.pairEntry m b i with | none => 0 | some o => o.toNat + 1)
          else 0)
        + ∑ k ∈ Finset.range (8 * d.rowCount.toNat), (s.rowWordAt (8 * d.rowBase.toNat + k)).toNat) % 65536)

/-- R51: the end of the check in progress, its result that of the tables as they stand then (log 21). That CHECK_END with
no check in progress changes nothing is the model's choice (log 6). -/
def Obligations.CheckEnds : Prop :=
  ∀ s : State, s.runs →
    ((∀ m, (s.mode m).state ≠ .checking) → exec .checkEnd s = .next s) ∧
    ∀ m : Fin 8, (s.mode m).state = .checking → (∀ m', (s.mode m').state = .checking → m' = m) →
      (s.checkDefect m = none →
        ∃ u : State, exec .checkEnd s = .next u.startPass.settle ∧
          u.mode m = { s.mode m with state := .ready, badReason := none } ∧
          (∀ m', m' ≠ m → u.mode m' = s.mode m') ∧ u.events = s.events ||| (1#10 <<< 4) ∧
          { u with events := s.events, store := { u.store with modes := s.store.modes } } =
            { s with store := { s.store with checkMode := m, checkResult := .ready } }) ∧
      (∀ r, s.checkDefect m = some r →
        ∃ u, exec .checkEnd s = .next u ∧
          u.mode m = { s.mode m with state := .bad, badReason := some r } ∧
          (∀ m', m' ≠ m → u.mode m' = s.mode m') ∧ u.events = s.events ||| (1#10 <<< 4) ∧
          { u with events := s.events, store := { u.store with modes := s.store.modes } } =
            { s with store := { s.store with checkMode := m, checkResult := .bad r } })

/-! ### Requests, passes and completions (chapters 4, 5 and 10) -/

/-- R61, R62, R63: SUBMIT, the checks of Table 4.2 in order, and the entry an accepted request becomes. -/
def Obligations.SubmitAnswers : Prop :=
  (∀ (s : State) (q : Request),
    (q.tag = 0 → s.checkRequest q = .badTag) ∧
    (q.tag ≠ 0 → q.afterTag = q.tag → s.checkRequest q = .badTag) ∧
    (q.tag ≠ 0 → q.afterTag ≠ q.tag → q.rect.legal s.config.panelW s.config.panelH = false →
      s.checkRequest q = .badRect) ∧
    (q.tag ≠ 0 → q.afterTag ≠ q.tag → q.rect.legal s.config.panelW s.config.panelH = true →
      (8 ≤ q.mode.toNat → s.checkRequest q = .badMode) ∧
      ∀ m : Fin 8, q.mode.toNat = m.val →
        s.checkRequest q =
          if (s.mode m).state ≠ .ready then .modeNotReady
          else if q.tag ∈ s.liveTags then .tagInUse
          else if 8 ≤ s.queue.length then .queueFull
          else .accepted)) ∧
  (∀ s : State, s.takes → s.checkRequest s.argRequest ≠ .accepted →
    exec .submit s = .next (s.answered 0x01 (s.checkRequest s.argRequest))) ∧
  (∀ s : State, s.takes → s.checkRequest s.argRequest = .accepted →
    ∃ m : Fin 8, m.val = s.argRequest.mode.toNat ∧
      exec .submit s = .next (State.startPass { s.answered 0x01 .accepted with
        queue := s.queue ++ [{
          tag := s.argRequest.tag, rect := s.argRequest.rect, mode := m, notify := s.argRequest.notify,
          noPromote := s.argRequest.noPromote,
          afterTag := if s.argRequest.afterTag ∈ s.liveTags then s.argRequest.afterTag else 0,
          state := .waiting, due := false }] }))

/-- R67, Table 4.5: CANCEL, by where the tag is found. The withdrawal's record is offered after the pass is started; the
slot takes the cancel as `SlotsAreCut` says. What follows in the same step is `PassesBeginAndEnd`: that a pass with
nothing left to examine ends there (log 13), and that a frame start held by a scan which the cancel of the last active
slot stops is delivered after the post, whose end stamp is the counter before it (log 16), are the model's readings. -/
def Obligations.CancelAnswers : Prop :=
  ∀ s : State, s.takes →
    ((s.argTag = 0 ∨ s.argTag ∉ s.liveTags) → exec .cancel s = .next (s.answered 0x02 .notFound)) ∧
    (∀ i e, s.argTag ≠ 0 → s.queue[i]? = some e → e.tag = s.argTag →
      (∀ j e', j < i → s.queue[j]? = some e' → e'.tag ≠ s.argTag) →
      (e.state ≠ .waiting → exec .cancel s = .next (s.answered 0x02 .tooLate)) ∧
      (e.state = .waiting → ∃ u : State,
        u.queue = s.queue.set i { e with state := .withdrawn } ∧ { u with queue := s.queue } = s ∧
        exec .cancel s = .next ((u.startPass.offer (.entry s.argTag)).answered 0x02 .accepted).settle)) ∧
    (∀ n : Fin 16, s.argTag ≠ 0 → (∀ e ∈ s.queue, e.tag ≠ s.argTag) →
      (s.slot n).state ≠ .free → (s.slot n).tag = s.argTag →
      (∀ n', n' < n → (s.slot n').state = .free ∨ (s.slot n').tag ≠ s.argTag) →
      ((s.slot n).state = .starting ∨ (s.slot n).state = .driving →
        exec .cancel s = .next ((s.cutSlot n .cancelled).answered 0x02 .accepted).settle) ∧
      ((s.slot n).state = .committing ∨ (s.slot n).state = .ending →
        exec .cancel s = .next (s.answered 0x02 .tooLate)))

/-- R70: CANCEL_ALL withdraws every WAITING entry, oldest first, then cuts every STARTING and DRIVING slot in ascending
number; the records are offered in that order, those that find room are taken, with the removal of their entries and the
return to FREE of their slots, and the others wait in it (R145, R146). A cut STARTING slot loses its snapshot job; a cut
DRIVING slot leaves the plan and the tiles of its claim set become UNKNOWN (R102). No entry is left WAITING, so the pass
that the removals start (R64, R66, R106) ends in the same step (log 13). Where the cut under down-pending stops a scan
that held a frame start, the frame start is delivered after the posts, so that every end stamp is the counter before it
(log 16). Both are the model's readings. The presentation that a QROOM brings is owed, the model's choice (log 20). -/
def Obligations.CancelAllWithdrawsAndCuts : Prop :=
  ∀ s : State, s.takes → s.liveTags.Nodup →
    let entries := s.queue.filter fun e => decide (e.state = .waiting)
    let cut := slotNumbers.filter fun n => decide ((s.slot n).state = .starting ∨ (s.slot n).state = .driving)
    let room := 16 - s.completions.length
    let taken := (entries.map (fun e => Poster.entry e.tag) ++ cut.map Poster.slot).take room
    let takenTags := (entries.map Entry.tag ++ cut.map fun n => (s.slot n).tag).take room
    let queueLeft := s.queue.filter fun e => decide (e.tag ∉ takenTags)
    let qroom := 8 ≤ s.queue.length ∧ queueLeft.length < 8
    ∃ (slots : Vector Slot 16) (tiles : List Tile),
      (∀ n : Fin 16, slots[n] =
        if n ∈ cut then
          (if Poster.slot n ∈ taken then Slot.cleared
            else { s.slot n with state := .ending, outcome := some .cancelled })
        else s.slot n) ∧
      (∀ k : Nat, tiles[k]? = s.tiles[k]?.map fun t =>
        { owner := if ∃ n, t.owner = some n ∧ Poster.slot n ∈ taken then none else t.owner
          known := if ∃ n ∈ cut, (s.slot n).state = .driving ∧ (s.slot n).rect.claims s.config.panelW k = true then false
            else t.known
          count := t.count }) ∧
      exec .cancelAll s = .next (State.settle { s.answered 0x03 .accepted with
        completions := s.completions ++
          (entries.map (fun e => ({
              tag := e.tag, outcome := .cancelled, promoted := false, widened := false, started := false, mode := e.mode,
              band := none, framesDriven := 0, startStamp := none, endStamp := s.frame.counter } : Record)) ++
            cut.map (fun n => ({
              tag := (s.slot n).tag, outcome := .cancelled, promoted := (s.slot n).promoted,
              widened := (s.slot n).widened, started := true, mode := (s.slot n).mode, band := some (s.slot n).band,
              framesDriven := (s.slot n).framesDriven, startStamp := (s.slot n).startStamp,
              endStamp := s.frame.counter } : Record))).take room
        posters := s.posters ++ (entries.map (fun e => Poster.entry e.tag) ++ cut.map Poster.slot).drop room
        queue := queueLeft.map fun e => { e with
          state := if e.state = .waiting then .withdrawn else e.state
          afterTag := if e.afterTag ∈ takenTags then 0 else e.afterTag }
        dispatcher := { s.dispatcher with
          passInProgress := s.dispatcher.passInProgress ||
            decide (entries ≠ [] ∨ ∃ n ∈ cut, Poster.slot n ∈ taken) }
        slots := slots
        tiles := tiles
        jobs := s.jobs.filter fun j => !decide (j.kind = .snapshot ∧ (s.slot j.slot).state = .starting)
        plan := s.plan.filter fun p => decide ((s.slot p.slot).state ≠ .driving)
        events := s.events ||| (if taken = [] then 0 else 1) ||| (if qroom then 2 else 0)
        load := if qroom ∧ s.load.state = .autoPending then { s.load with retriesOwed := s.load.retriesOwed + 1 }
          else s.load })

/-- R148: POP; and no other command or event but a reset takes a record from the Completion Queue or changes one, where
the blocks are defined (POP and SOFT_RESET are also the writes 0x04 and 0x0F of COMMAND). -/
def Obligations.PopAnswers : Prop :=
  (∀ (c : Instr) (s t : State), s.phase ≠ .undefined → c ≠ .pop → c ≠ .registerWrite .command 0x04 →
    c ≠ .softReset → c ≠ .registerWrite .command 0x0F → c ≠ .pinReset → c ≠ .vddApplied →
    exec c s = .next t → ∃ more, t.completions = s.completions ++ more) ∧
  ∀ s : State, s.takes →
    (s.completions = [] → exec .pop s = .next (s.answered 0x04 .empty)) ∧
    (∀ r rest, s.completions = r :: rest →
      (s.posters = [] → exec .pop s = .next { s.answered 0x04 .accepted with completions := rest }) ∧
      (∀ p ps, s.posters = p :: ps →
        exec .pop s = .next ((State.takePost { s with completions := rest, posters := ps } p).answered 0x04
          .accepted).settle))

/-- R64, R71, R72, R106, R145, R146: an offer is taken while the Completion Queue holds fewer than 16 records and else
waits; the taking of a slot's post, and of an entry's. That the presentation which a QROOM brings is held as owed
(`retriesOwed`) is the model's choice (log 20). -/
def Obligations.PostsAreTaken : Prop :=
  (∀ (s : State) (p : Poster),
    s.offer p = if s.completions.length < 16 then s.takePost p else { s with posters := s.posters ++ [p] }) ∧
  (∀ (s : State) (n : Fin 16) (o : SlotOutcome), (s.slot n).outcome = some o →
    ∃ u : State, s.takePost (.slot n) = u.startPass ∧
      u.completions = s.completions ++ [{
        tag := (s.slot n).tag,
        outcome := (match o with | .done => .done | .cancelled => .cancelled | .fault => .fault),
        promoted := (s.slot n).promoted, widened := (s.slot n).widened, started := true, mode := (s.slot n).mode,
        band := some (s.slot n).band, framesDriven := (s.slot n).framesDriven, startStamp := (s.slot n).startStamp,
        endStamp := s.frame.counter }] ∧
      u.slot n = Slot.cleared ∧ (∀ n', n' ≠ n → u.slot n' = s.slot n') ∧
      (∀ k : Nat, u.tiles[k]? = s.tiles[k]?.map fun t =>
        if t.owner = some n then ⟨none, t.known, t.count⟩ else t) ∧
      u.queue = s.queue.map (Entry.released (s.slot n).tag) ∧
      u.events = (if o = .done ∧ (s.slot n).notify = false then s.events else s.events ||| 1) ∧
      { u with
        completions := s.completions, slots := s.slots, tiles := s.tiles, queue := s.queue, events := s.events } = s) ∧
  (∀ (s : State) (i : Nat) (e : Entry), s.queue[i]? = some e →
    (∀ j e', j < i → s.queue[j]? = some e' → e'.tag ≠ e.tag) → e.state ≠ .waiting →
    ∃ u : State,
      s.takePost (.entry e.tag) = (if ∃ e' ∈ s.queue, e'.afterTag = e.tag then u.startPass else u) ∧
      u.completions = s.completions ++ [{
        tag := e.tag, outcome := (match e.state with | .rejecting r => .rejected r | _ => .cancelled),
        promoted := false, widened := false, started := false, mode := e.mode, band := none, framesDriven := 0,
        startStamp := none, endStamp := s.frame.counter }] ∧
      u.queue = (s.queue.map (Entry.released e.tag)).eraseIdx i ∧
      u.events = (if s.queue.length = 8 then s.events ||| 1 ||| 2 else s.events ||| 1) ∧
      u.load = (if s.queue.length = 8 ∧ s.load.state = .autoPending then
          { s.load with retriesOwed := s.load.retriesOwed + 1 }
        else s.load) ∧
      { u with completions := s.completions, queue := s.queue, events := s.events, load := s.load } = s)

/-- R75, R76: the two pass flags. An event of Table 5.1 begins a pass over the entries then in the queue, or owes one.
R117, R118, R125, R76: what follows in the same step from what a step has done (`State.settle`): the discharge that
down-pending waits for; the stop of a scan whose state has been left, with a frame start it held; the end of a pass that
has reached every entry it was given, an owed pass beginning at once. The model's readings: the held frame start is
delivered after the step's other effects (log 16), and the pass ends in the step that leaves it nothing to examine
(log 13). That this delivery goes to the Region Engine before the sequencer is its choice (log 10). -/
def Obligations.PassesBeginAndEnd : Prop :=
  (∀ s : State, s.dispatcher.passInProgress = false →
    s.startPass = { s with
      queue := s.queue.map fun e => { e with due := true }, dispatcher := ⟨true, s.dispatcher.passOwed⟩ }) ∧
  (∀ s : State, s.dispatcher.passInProgress = true →
    s.startPass = { s with dispatcher := { s.dispatcher with passOwed := true } }) ∧
  (∀ s : State,
    let inactive := ∀ n, (s.slot n).state ≠ .starting ∧ (s.slot n).state ≠ .driving
    let d : State :=
      if s.power.state = .on ∧ s.power.downPending = true ∧ inactive then
        { s with power := { s.power with state := .discharging, downPending := false, dischargeCount := 0 } }
      else s
    let u : State :=
      match d.scan with
      | none => d
      | some sc =>
        if (sc.kind = .drive ∧ d.power.state ≠ .on) ∨ (sc.kind = .discharge ∧ d.power.state ≠ .discharging) then
          if d.frame.held = true then
            State.deliverFrame { d with scan := none, events := d.events ||| (1#10 <<< 9) } .regionFirst
          else { d with scan := none }
        else d
    (s.dispatcher.passInProgress = false ∨ (∃ e ∈ s.queue, e.due = true ∧ e.state = .waiting) → s.settle = u) ∧
    (s.dispatcher.passInProgress = true → (∀ e ∈ s.queue, e.due = true → e.state ≠ .waiting) →
      s.settle =
        if s.dispatcher.passOwed = true ∧ ∃ e ∈ s.queue, e.state = .waiting then
          { u with queue := s.queue.map fun e => { e with due := true }, dispatcher := ⟨true, false⟩ }
        else { u with queue := s.queue.map fun e => { e with due := false }, dispatcher := ⟨false, false⟩ }))

/-- R78, R80: an entry that the pass reaches and some waiting condition holds stays WAITING as it was; where the
sequencer is its one hindrance, is not ON and AUTO_WAKE is set, a wake request is sent. -/
def Obligations.ExaminationHolds : Prop :=
  ∀ (s : State) (i : Nat) (e : Entry), s.runs → s.dispatcher.passInProgress = true →
    s.queue[i]? = some e → e.due = true → e.state = .waiting →
    (∀ j e', j < i → s.queue[j]? = some e' → ¬(e'.due = true ∧ e'.state = .waiting)) →
    let seen : State := { s with queue := s.queue.set i { e with due := false } }
    let hindered := e.afterTag ≠ 0 ∨ (∀ b, s.temp.current ≠ some (.band b)) ∨ (∀ n, (s.slot n).state ≠ .free) ∨
      (∃ k t, s.tiles[k]? = some t ∧ e.rect.claims s.config.panelW k = true ∧ t.owner.isSome = true) ∨
      (∃ j e', j < i ∧ s.queue[j]? = some e' ∧ e'.state = .waiting ∧ e'.rect.meets e.rect = true)
    (hindered → exec .entryExamination s = .next seen.settle) ∧
    (¬hindered → s.power.state = .on → s.power.downPending = true → exec .entryExamination s = .next seen.settle) ∧
    (¬hindered → s.power.state ≠ .on → s.bus.autoWake = false → exec .entryExamination s = .next seen.settle) ∧
    (¬hindered → s.power.state ≠ .on → s.bus.autoWake = true →
      exec .entryExamination s = .next seen.wakeRequest.settle) ∧
    seen.plainQueue = s.plainQueue

/-- R81, R82, R83, R84, R86: an entry that meets no waiting condition is rejected for its band, for its forbidden
promotion, or for the want of a clean mode; the REJECTING entry offers its record. -/
def Obligations.ExaminationRejects : Prop :=
  ∀ (s : State) (i : Nat) (e : Entry) (b : Fin 8), s.runs → s.dispatcher.passInProgress = true →
    s.queue[i]? = some e → e.due = true → e.state = .waiting →
    (∀ j e', j < i → s.queue[j]? = some e' → ¬(e'.due = true ∧ e'.state = .waiting)) →
    e.afterTag = 0 → s.temp.current = some (.band b) → (∃ n, (s.slot n).state = .free) →
    (∀ k t, s.tiles[k]? = some t → e.rect.claims s.config.panelW k = true → t.owner = none) →
    (∀ j e', j < i → s.queue[j]? = some e' → e'.state = .waiting → e'.rect.meets e.rect = false) →
    s.power.state = .on → s.power.downPending = false →
    let rejected (r : RejectReason) : State :=
      State.settle (State.offer { s with queue := s.queue.set i { e with due := false, state := .rejecting r } }
        (.entry e.tag))
    let needsPromotion := (s.mode e.mode).flash = false ∧
      ∃ k t, s.tiles[k]? = some t ∧ e.rect.claims s.config.panelW k = true ∧
        (t.known = false ∨ (s.config.partialLimit ≠ 0 ∧ s.config.partialLimit ≤ t.count))
    let clean := s.mode s.config.cleanMode
    let cleanUsable := clean.state = .ready ∧ clean.flash = true ∧ clean.bandSet.getLsbD b = true
    ((s.mode e.mode).bandSet.getLsbD b = false →
      exec .entryExamination s = .next (rejected .bandUnsupported)) ∧
    ((s.mode e.mode).bandSet.getLsbD b = true → needsPromotion → e.noPromote = true →
      exec .entryExamination s = .next (rejected .needsClean)) ∧
    ((s.mode e.mode).bandSet.getLsbD b = true → needsPromotion → e.noPromote = false → ¬cleanUsable →
      exec .entryExamination s = .next (rejected .cleanUnavailable))

/-- R82, R85, R87, R88, R89: an entry that is neither held nor rejected starts in the lowest-numbered FREE slot, as
asked or promoted to the clean mode over the union of its claim set; its tiles are claimed, its snapshot job joins, and
it leaves the queue. That the presentation which the removal's QROOM brings is held as owed (`retriesOwed`) is the model's
choice (log 20). -/
def Obligations.ExaminationStarts : Prop :=
  ∀ (s : State) (i : Nat) (e : Entry) (b : Fin 8) (n : Fin 16), s.runs → s.dispatcher.passInProgress = true →
    s.queue[i]? = some e → e.due = true → e.state = .waiting →
    (∀ j e', j < i → s.queue[j]? = some e' → ¬(e'.due = true ∧ e'.state = .waiting)) →
    e.afterTag = 0 → s.temp.current = some (.band b) →
    (s.slot n).state = .free → (∀ n', n' < n → (s.slot n').state ≠ .free) →
    (∀ k t, s.tiles[k]? = some t → e.rect.claims s.config.panelW k = true → t.owner = none) →
    (∀ j e', j < i → s.queue[j]? = some e' → e'.state = .waiting → e'.rect.meets e.rect = false) →
    s.power.state = .on → s.power.downPending = false → (s.mode e.mode).bandSet.getLsbD b = true →
    let needsPromotion := (s.mode e.mode).flash = false ∧
      ∃ k t, s.tiles[k]? = some t ∧ e.rect.claims s.config.panelW k = true ∧
        (t.known = false ∨ (s.config.partialLimit ≠ 0 ∧ s.config.partialLimit ≤ t.count))
    let clean := s.mode s.config.cleanMode
    let cleanUsable := clean.state = .ready ∧ clean.flash = true ∧ clean.bandSet.getLsbD b = true
    let started (m : Fin 8) (r : Rect) (promoted widened : Bool) : Prop :=
      ∃ u : State, exec .entryExamination s = .next u.settle ∧
        u.slot n = {
          state := .starting, tag := e.tag, rect := r, mode := m, band := b,
          frameTotal := ((s.mode m).frameCounts[b]).toNat, frameIndex := 0, framesDriven := 0, startStamp := none,
          snapshotDone := false, outcome := none, promoted := promoted, widened := widened, notify := e.notify,
          drivenAnything := false } ∧
        (∀ n', n' ≠ n → u.slot n' = s.slot n') ∧
        (∀ k, u.tiles[k]? = s.tiles[k]?.map fun t =>
          if e.rect.claims s.config.panelW k = true then ⟨some n, t.known, t.count⟩ else t) ∧
        u.jobs = s.jobs ++ [⟨n, .snapshot, 0, none⟩] ∧
        u.queue = s.queue.eraseIdx i ∧
        u.events = (if s.queue.length = 8 then s.events ||| 2 else s.events) ∧
        u.load = (if s.queue.length = 8 ∧ s.load.state = .autoPending then
            { s.load with retriesOwed := s.load.retriesOwed + 1 }
          else s.load) ∧
        { u with
          slots := s.slots, tiles := s.tiles, jobs := s.jobs, queue := s.queue, events := s.events,
          load := s.load } = s
    (¬needsPromotion → started e.mode e.rect false false) ∧
    (needsPromotion → e.noPromote = false → cleanUsable →
      started s.config.cleanMode e.rect.union true (decide (e.rect.union ≠ e.rect)))

/-! ### Slots, memory jobs and cuts (chapters 1 and 6) -/

/-- R97, R98, R99: the Region Engine takes a frame start in ON alone: every slot acts by its state, the commit jobs join
in ascending slot number, and the plan is the slots that are then DRIVING. -/
def Obligations.SlotsAtAFrameStart : Prop :=
  ∀ s : State,
    (s.power.state ≠ .on → s.regionFrame = { s with plan := [] }) ∧
    (s.power.state = .on → ∃ u : State, s.regionFrame = u.dischargeIfDue ∧
      (∀ n : Fin 16, u.slot n =
        match (s.slot n).state with
        | .starting =>
          if (s.slot n).snapshotDone = true then
            { s.slot n with
              state := .driving, frameIndex := 0, framesDriven := 1, startStamp := some s.frame.counter,
              drivenAnything := true }
          else s.slot n
        | .driving =>
          if (s.slot n).framesDriven < (s.slot n).frameTotal then
            { s.slot n with
              frameIndex := (s.slot n).frameIndex + 1, framesDriven := (s.slot n).framesDriven + 1 }
          else { s.slot n with state := .committing }
        | .free | .committing | .ending => s.slot n) ∧
      u.jobs = s.jobs ++ (slotNumbers.filter fun n =>
        decide ((s.slot n).state = .driving ∧ (s.slot n).frameTotal ≤ (s.slot n).framesDriven)).map
          (fun n => ⟨n, .commit, 0, none⟩) ∧
      u.plan = (slotNumbers.filter fun n => decide ((u.slot n).state = .driving)).map
        (fun n => ⟨n, (u.slot n).rect, (u.slot n).mode, (u.slot n).band, (u.slot n).frameIndex⟩) ∧
      { u with slots := s.slots, jobs := s.jobs, plan := s.plan } = s) ∧
    s.dischargeIfDue =
      if s.power.state = .on ∧ s.power.downPending = true ∧
          ∀ n, (s.slot n).state ≠ .starting ∧ (s.slot n).state ≠ .driving then
        { s with power := { s.power with state := .discharging, downPending := false, dischargeCount := 0 } }
      else s

/-- R6, R7, R95, R100: the port serves a waiting scan read first, then the running job: the read of its next quad, or the
write of the quad it has read, for the pixels inside the rectangle alone; with nothing waiting it changes nothing (log 6).
Which quad the scan has waiting, what it reads of it (CURRENT, then FROZEN, at which the codes are formed, the undriven
quads before it NEUTRAL without a read), and what serves all of a row's reads in one step, are the model's reading
(log 18). -/
def Obligations.QuadAccesses : Prop :=
  ∀ s : State, s.runs →
    (∀ p q y (i : Fin 4), (s.readQuad p q y)[i] = s.pixel p (4 * q + i.val) y) ∧
    (∀ sc, s.scan = some sc →
      let driven (q : Nat) := ∃ (i : Fin 4) (n : Fin 16) (p : PlanEntry), s.ownerAt (4 * q + i.val) (sc.line - 2) = some n ∧
        s.planOf n = some p ∧ p.rect.contains (4 * q + i.val) (sc.line - 2) = true
      ∀ y q, s.scanQuad sc = some (y, q) ↔
        sc.kind = .drive ∧ 2 ≤ sc.line ∧ sc.line ≤ sc.h + 1 ∧ y = sc.line - 2 ∧
        sc.formed.length / 4 ≤ q ∧ q < sc.w / 4 ∧ driven q ∧ ∀ q', sc.formed.length / 4 ≤ q' → q' < q → ¬driven q') ∧
    ((∀ sc, s.scan = some sc → s.scanQuad sc = none) → s.serveScanReads = s) ∧
    (∀ sc yq, s.scan = some sc → s.scanQuad sc = some yq →
      s.serveScanReads = { s with scan := some { sc with formed := s.nextRow sc, fromRead := none } }) ∧
    (∀ sc, s.serveScanReads.scan = some sc → s.serveScanReads.scanQuad sc = none) ∧
    (∀ sc y q, s.scan = some sc → s.scanQuad sc = some (y, q) →
      ((∀ cur, sc.fromRead ≠ some (q, cur)) → exec .quadAccess s = .next { s with scan := some { sc with
        fromRead := some (q, s.readQuad .current q y) } }) ∧
      (∀ cur, sc.fromRead = some (q, cur) → exec .quadAccess s = .next { s with scan := some { sc with
        fromRead := none
        formed := sc.formed ++ List.replicate (4 * q - sc.formed.length) ⟨.neutral, none⟩ ++
          [s.formPixel (4 * q) y cur[0] (s.pixel .frozen (4 * q) y),
            s.formPixel (4 * q + 1) y cur[1] (s.pixel .frozen (4 * q + 1) y),
            s.formPixel (4 * q + 2) y cur[2] (s.pixel .frozen (4 * q + 2) y),
            s.formPixel (4 * q + 3) y cur[3] (s.pixel .frozen (4 * q + 3) y)] } })) ∧
    ((∀ sc, s.scan = some sc → s.scanQuad sc = none) →
      (∀ j rest, s.jobs = j :: rest →
        let r := (s.slot j.slot).rect
        let perRow := (r.x + r.w - 1) / 4 - r.x / 4 + 1
        let q := r.x / 4 + j.quadsDone % perRow
        let y := r.y + j.quadsDone / perRow
        let source : Plane := match j.kind with | .snapshot => .target | .commit => .frozen
        let dest : Plane := match j.kind with | .snapshot => .frozen | .commit => .current
        (perRow * r.h ≤ j.quadsDone → exec .quadAccess s = .next s) ∧
        (j.quadsDone < perRow * r.h → j.held = none → exec .quadAccess s = .next { s with
          jobs := { j with held := some (s.readQuad source q y) } :: rest }) ∧
        (∀ v, j.quadsDone < perRow * r.h → j.held = some v → r.x + r.w ≤ 1024 →
          ∃ t, exec .quadAccess s = .next t ∧
            (∀ i : Fin 4, r.x ≤ 4 * q + i.val → 4 * q + i.val < r.x + r.w →
              t.pixel dest (4 * q + i.val) y = match j.kind with
                | .snapshot => roundLevel (s.mode (s.slot j.slot).mode).levelCode v[i]
                | .commit => v[i]) ∧
            (∀ p x y', x < 1024 → (p ≠ dest ∨ y' ≠ y ∨ x / 4 ≠ q ∨ x < r.x ∨ r.x + r.w ≤ x) →
              t.pixel p x y' = s.pixel p x y') ∧
            t.jobs = { j with quadsDone := j.quadsDone + 1, held := none } :: rest ∧
            { t with image := s.image, jobs := s.jobs } = s)) ∧
      (s.jobs = [] →
        (s.load.state = .closed ∨ s.load.state = .autoPending ∨ s.load.remaining = 0 ∨
          (s.load.state = .reading ∧ 32 ≤ s.load.fifo.length) ∨
          ((s.load.state = .writing ∨ s.load.state = .draining) ∧ s.load.fifo = [])) →
        exec .quadAccess s = .next s))

/-- R95, Table 0.4: the end of a snapshot. The accesses the job had still to make have been served, after the scan reads
that waited (R6; log 7, log 18): every pixel of the rectangle they reach holds in FROZEN the level read from TARGET,
rounded into the level set of the slot's mode. With no snapshot job running the event changes nothing (log 6). -/
def Obligations.SnapshotEndCaptures : Prop :=
  (∀ l : Level, (roundLevel 0 l).toNat = (if l.toNat ≤ 7 then 0 else 15) ∧
    (roundLevel 1 l).toNat =
      (if l.toNat ≤ 2 then 0 else if l.toNat ≤ 7 then 5 else if l.toNat ≤ 12 then 10 else 15) ∧
    roundLevel 2 l = l ∧ roundLevel 3 l = l) ∧
  ∀ s : State, s.runs →
    ((∀ j ∈ s.jobs.head?, j.kind ≠ .snapshot) → exec .snapshotEnd s = .next s) ∧
    ∀ j rest, s.jobs = j :: rest → j.kind = .snapshot →
      let sl := s.slot j.slot
      let r := sl.rect
      let quad (x y : Nat) := (y - r.y) * ((r.x + r.w - 1) / 4 - r.x / 4 + 1) + (x / 4 - r.x / 4)
      let read (x y : Nat) : Level :=
        match j.held with
        | some v => if quad x y = j.quadsDone then v[(Fin.ofNat 4 x)] else s.pixel .target x y
        | none => s.pixel .target x y
      r.legal 1024 768 = true →
      ∃ t, exec .snapshotEnd s = .next t ∧
        (∀ x y, x < 1024 → t.pixel .frozen x y =
          if r.contains x y = true ∧ j.quadsDone ≤ quad x y then roundLevel (s.mode sl.mode).levelCode (read x y)
          else s.pixel .frozen x y) ∧
        (∀ p x y, p ≠ .frozen → t.pixel p x y = s.pixel p x y) ∧
        t.slot j.slot = { sl with snapshotDone := true } ∧ (∀ n, n ≠ j.slot → t.slot n = s.slot n) ∧
        t.jobs = rest ∧
        { t with image := s.image, slots := s.slots, jobs := s.jobs } =
          if j.quadsDone < ((r.x + r.w - 1) / 4 - r.x / 4 + 1) * r.h then s.serveScanReads else s

/-- R100, R101: the end of a commit: CURRENT takes FROZEN over the rectangle, the tiles of the claim set are updated by
the mode's FLASH flag, and the slot enters ENDING with DONE and offers its record (`PostsAreTaken`). The accesses the job
had still to make are served first, after the scan reads that waited (R6; log 7, log 18). With no commit job running the
event changes nothing (log 6). -/
def Obligations.CommitEndCopies : Prop :=
  ∀ s : State, s.runs →
    ((∀ j ∈ s.jobs.head?, j.kind ≠ .commit) → exec .commitEnd s = .next s) ∧
    ∀ j rest, s.jobs = j :: rest → j.kind = .commit →
      let sl := s.slot j.slot
      let r := sl.rect
      let quad (x y : Nat) := (y - r.y) * ((r.x + r.w - 1) / 4 - r.x / 4 + 1) + (x / 4 - r.x / 4)
      let read (x y : Nat) : Level :=
        match j.held with
        | some v => if quad x y = j.quadsDone then v[(Fin.ofNat 4 x)] else s.pixel .frozen x y
        | none => s.pixel .frozen x y
      r.legal 1024 768 = true →
      ∃ u : State, exec .commitEnd s = .next (u.offer (.slot j.slot)).settle ∧
        (∀ x y, x < 1024 → u.pixel .current x y =
          if r.contains x y = true ∧ j.quadsDone ≤ quad x y then read x y else s.pixel .current x y) ∧
        (∀ p x y, p ≠ .current → u.pixel p x y = s.pixel p x y) ∧
        u.slot j.slot = { sl with state := .ending, outcome := some .done } ∧
        (∀ n, n ≠ j.slot → u.slot n = s.slot n) ∧
        (∀ k : Nat, u.tiles[k]? = s.tiles[k]?.map fun t =>
          if r.claims s.config.panelW k = true then
            if (s.mode sl.mode).flash = true then
              if r.covers s.config.panelW k = true then ⟨t.owner, true, 0⟩ else t
            else ⟨t.owner, t.known, min 15 (t.count + 1)⟩
          else t) ∧
        u.jobs = rest ∧
        { u with image := s.image, slots := s.slots, tiles := s.tiles, jobs := s.jobs } =
          if j.quadsDone < ((r.x + r.w - 1) / 4 - r.x / 4 + 1) * r.h then s.serveScanReads else s

/-- R96, R99, R102, R104, R105: a cut (a cancel, a power loss notice) by the slot's state. A STARTING slot loses its
snapshot job and keeps its tiles as they are; a DRIVING slot leaves the plan and its tiles become UNKNOWN; the slot
enters ENDING and offers its record. Other slots are left as they are. -/
def Obligations.SlotsAreCut : Prop :=
  ∀ (s : State) (n : Fin 16) (o : SlotOutcome),
    ((s.slot n).state ≠ .starting → (s.slot n).state ≠ .driving → s.cutSlot n o = s) ∧
    ((s.slot n).state = .starting → ∃ u : State, s.cutSlot n o = u.offer (.slot n) ∧
      u.slot n = { s.slot n with state := .ending, outcome := some o } ∧ (∀ n', n' ≠ n → u.slot n' = s.slot n') ∧
      u.jobs = s.jobs.filter (fun j => decide (¬(j.slot = n ∧ j.kind = .snapshot))) ∧
      { u with slots := s.slots, jobs := s.jobs } = s) ∧
    ((s.slot n).state = .driving → ∃ u : State, s.cutSlot n o = u.offer (.slot n) ∧
      u.slot n = { s.slot n with state := .ending, outcome := some o } ∧ (∀ n', n' ≠ n → u.slot n' = s.slot n') ∧
      u.plan = s.plan.filter (fun p => decide (p.slot ≠ n)) ∧
      (∀ k : Nat, u.tiles[k]? = s.tiles[k]?.map fun t =>
        if (s.slot n).rect.claims s.config.panelW k = true then ⟨t.owner, false, t.count⟩ else t) ∧
      { u with slots := s.slots, plan := s.plan, tiles := s.tiles } = s) ∧
    s.cutSlots o [] = s ∧ ∀ ns, s.cutSlots o (n :: ns) = (s.cutSlot n o).cutSlots o ns

/-! ### Frames, scans and the drive port (chapter 7) -/

/-- R110, R111, R113, R117: an expiry is delivered at once or held by the scan in progress; a held frame start is
delivered as the scan ends, with FRAME_LATE; a delivery raises the counter, begins a period, and is taken by the
blocks, the Scan Engine last. The model's choices: the order of the Region Engine and the sequencer is the event's
(log 10), SCAN_END ends a scan at whatever line and period it stands, the scan time not being counted (log 5), a
FRAME_START with a scan in progress ends that scan first (log 8), and a SCAN_END with no scan, or an expiry with no
period running, changes nothing (log 6). -/
def Obligations.FrameStartDelivery : Prop :=
  (∀ (s : State) (order : FrameOrder),
    let counted : State := { s with frame := ⟨some s.config.frameTime, false, s.frame.counter + 1⟩ }
    (s.deliverFrame order =
      match order with
      | .regionFirst => counted.temperatureFrame.regionFrame.powerFrame.scanFrame
      | .sequencerFirst => counted.temperatureFrame.powerFrame.regionFrame.scanFrame) ∧
    (s.deliverFrame order).frame = counted.frame ∧
    { s.deliverFrame order with
      frame := s.frame, temp := s.temp, slots := s.slots, jobs := s.jobs, plan := s.plan, power := s.power,
      scan := s.scan } = s) ∧
  ∀ (s : State) (order : FrameOrder), s.runs →
    let ended : State := { s with scan := none }
    let late : State := { s with scan := none, events := s.events ||| (1#10 <<< 9) }
    (s.frame.period = none → exec (.frameTimerExpiry order) s = .next s) ∧
    (s.frame.period ≠ none → s.scan = none →
      exec (.frameTimerExpiry order) s = .next (s.deliverFrame order).settle) ∧
    (s.frame.period ≠ none → s.scan ≠ none →
      exec (.frameTimerExpiry order) s = .next { s with frame := ⟨none, true, s.frame.counter⟩ }) ∧
    (s.scan = none → exec (.scanEnd order) s = .next s) ∧
    (s.scan ≠ none → s.frame.held = false → exec (.scanEnd order) s = .next ended) ∧
    (s.scan ≠ none → s.frame.held = true →
      exec (.scanEnd order) s = .next (late.deliverFrame order).settle) ∧
    (s.scan = none ∨ s.frame.held = false →
      exec (.frameStart order) s = .next (ended.deliverFrame order).settle) ∧
    (s.scan ≠ none → s.frame.held = true →
      exec (.frameStart order) s = .next (late.deliverFrame order).settle)

/-- R112, R117, R118: when a scan begins, what it latches, and its stop when the sequencer leaves the state it began
in, which delivers a held frame start with FRAME_LATE, the Region Engine before the sequencer (the model's choice,
log 10). -/
def Obligations.ScansBeginAndStop : Prop :=
  ∀ s : State,
    let scanOf (k : ScanKind) : Scan := ⟨k, s.config.sckDiv, s.config.panelW, s.config.panelH, 1, 1, [], [], none⟩
    (s.power.state = .on → s.plan ≠ [] → s.scanFrame = { s with scan := some (scanOf .drive) }) ∧
    (s.power.state = .discharging → s.scanFrame = { s with
      scan := some (scanOf .discharge)
      power := { s.power with dischargeCount := s.power.dischargeCount + 1 } }) ∧
    ((s.power.state = .on ∧ s.plan = []) ∨ (s.power.state ≠ .on ∧ s.power.state ≠ .discharging) →
      s.scanFrame = s) ∧
    (s.scan = none → s.stopScanIfLeft = s) ∧
    (∀ sc, s.scan = some sc →
      let left := (sc.kind = .drive ∧ s.power.state ≠ .on) ∨ (sc.kind = .discharge ∧ s.power.state ≠ .discharging)
      (¬left → s.stopScanIfLeft = s) ∧
      (left → s.frame.held = false → s.stopScanIfLeft = { s with scan := none }) ∧
      (left → s.frame.held = true → s.stopScanIfLeft =
        State.deliverFrame { s with scan := none, events := s.events ||| (1#10 <<< 9) } .regionFirst))

/-- R33, R22, R113, R115, R121, Table 7.1: what the output pins carry. -/
def Obligations.OutputPins : Prop :=
  ∀ s : State,
    (s.dreq = true ↔ s.bus.dreqEnable = true ∧
      ((s.load.state = .writing ∧ 0 < s.load.streamCount ∧ s.load.fifo.length < 32) ∨
        (s.load.state = .reading ∧ s.load.fifo ≠ []))) ∧
    (s.nWait = false ↔ s.bus.stretched.isSome = true) ∧
    (s.pwrEn = true ↔ s.power.state = .rising ∨ s.power.state = .on ∨ s.power.state = .discharging) ∧
    (s.oe = true ↔ s.scan.isSome = true) ∧ (s.sckRunning = true ↔ s.scan.isSome = true) ∧
    (s.gst = true ↔ ∃ sc, s.scan = some sc ∧ sc.line = 1 ∧ sc.period = 1) ∧
    (s.sle = true ↔ ∃ sc, s.scan = some sc ∧ 3 ≤ sc.line ∧ sc.line ≤ sc.h + 2 ∧ sc.period = sc.w / 8 + 1) ∧
    (s.gck = true ↔ ∃ sc, s.scan = some sc ∧ 3 ≤ sc.line ∧ sc.period = sc.w / 8 + 2) ∧
    (∀ j, j < 8 → ∃ c, s.sdo[j]? = some c ∧ s.sdoWord.toNat / 4 ^ j % 4 = c.bits ∧
      (s.scan = none → c = .neutral) ∧
      (∀ sc, s.scan = some sc →
        (sc.line < 3 ∨ sc.h + 2 < sc.line ∨ sc.w / 8 < sc.period → c = .neutral) ∧
        (3 ≤ sc.line → sc.line ≤ sc.h + 2 → sc.period ≤ sc.w / 8 →
          (sc.kind = .discharge → c = .ground) ∧
          (∀ p, sc.kind = .drive → sc.shifting[8 * (sc.period - 1) + j]? = some p → c = s.shiftCode p))))

/-- R42, R114, R115: the code formed for a pixel, the row shifted next, and the test at the shifting; an ON scan shifts
no GROUND, and DARKEN and LIGHTEN are carried in ON alone, where the invariants `DriveStaysSound` and
`StepsEndSettled` hold. That the codes not yet formed are read and formed as their line ends is the model's choice
(log 4, log 18). -/
def Obligations.PixelCodes : Prop :=
  (∀ (s : State) (x y : Nat) (f t : Level),
    (∀ n, s.planOf n = none ↔ ∀ p ∈ s.plan, p.slot ≠ n) ∧
    (∀ n p, s.planOf n = some p → p ∈ s.plan ∧ p.slot = n) ∧
    (s.ownerAt x y = none → s.formPixel x y f t = ⟨.neutral, none⟩) ∧
    (∀ n, s.ownerAt x y = some n →
      (s.planOf n = none → s.formPixel x y f t = ⟨.neutral, none⟩) ∧
      (∀ p, s.planOf n = some p →
        (p.rect.contains x y = false → s.formPixel x y f t = ⟨.neutral, none⟩) ∧
        (p.rect.contains x y = true →
          s.formPixel x y f t = ⟨s.driveLookup p.mode p.band p.frameIndex f t, some n⟩)))) ∧
  (∀ (s : State) (sc : Scan) (x : Nat), sc.kind = .drive → 2 ≤ sc.line → sc.line ≤ sc.h + 1 → sc.w % 4 = 0 →
    sc.formed.length % 4 = 0 → sc.formed.length ≤ sc.w → x < sc.w →
    (s.nextRow sc)[x]? =
      if x < sc.formed.length then sc.formed[x]?
      else some (s.formPixel x (sc.line - 2) (s.pixel .current x (sc.line - 2)) (s.pixel .frozen x (sc.line - 2)))) ∧
  (∀ (s : State) (c : DriveCode) (n : Fin 16), s.shiftCode ⟨c, none⟩ = .neutral ∧
    s.shiftCode ⟨c, some n⟩ = if ∃ p ∈ s.plan, p.slot = n then c else .neutral) ∧
  (∀ (s : State) (m b : Fin 8) (i : Nat) (f t : Level), s.readyModesSound → (s.mode m).state = .ready →
    (s.mode m).bandSet.getLsbD b = true → i < ((s.mode m).frameCounts[b]).toNat →
    s.driveLookup m b i f t ≠ .ground) ∧
  (∀ s : State, s.runs → s.driveSound →
    (DriveCode.ground ∈ s.sdo → s.power.state = .discharging) ∧
    (DriveCode.darken ∈ s.sdo ∨ DriveCode.lighten ∈ s.sdo → s.power.state = .on))

/-! ### The Power Sequencer (chapter 8) -/

/-- Table 8.2: the three commands, by the sequencer's state. -/
def Obligations.PowerCommands : Prop :=
  ∀ s : State, s.takes →
    exec .powerUp s = .next (
      match s.power.state with
      | .off => (s.answered 0x0B .accepted).enterRising.settle
      | .rising => s.answered 0x0B .accepted
      | .on =>
        if s.power.downPending = true then
          (State.startPass { s.answered 0x0B .accepted with power := { s.power with downPending := false } }).settle
        else s.answered 0x0B .accepted
      | .discharging | .falling => s.answered 0x0B .busy
      | .fault => s.answered 0x0B .badState) ∧
    exec .powerDown s = .next (
      match s.power.state with
      | .off => s.answered 0x0C .accepted
      | .rising => (s.answered 0x0C .accepted).enterFalling
      | .on => State.settle { s.answered 0x0C .accepted with power := { s.power with downPending := true } }
      | .discharging | .falling =>
        { s.answered 0x0C .accepted with power := { s.power with wakePending := false } }
      | .fault => s.answered 0x0C .badState) ∧
    exec .clearFault s = .next (
      if s.power.state = .fault ∧ s.pgood = false then
        (State.startPass { s.answered 0x0D .accepted with power := { s.power with state := .off } }).settle
      else s.answered 0x0D .badState)

/-- R122, R123, R124, R127, R128, R129, R130: PGOOD, the two timers, the entries into the states, and a wake request by
state. A power loss notice cuts the slots in ascending number (`SlotsAreCut`); that a frame start held by the scan which
PGOOD_FALL stops is delivered after the notice and its posts is the model's reading (log 16), and that an expiry in
another state changes nothing is its choice (log 6). -/
def Obligations.SupplyEvents : Prop :=
  ∀ s : State,
    s.enterOn = State.startPass { s with
      events := s.events ||| (1#10 <<< 7)
      power := { s.power with state := .on, riseTimer := none, idleCount := 0, downPending := false } } ∧
    (let rising : State := { s with power := { s.power with
        state := .rising, riseTimer := some s.config.riseLimit, wakePending := false } };
      s.enterRising = if s.pgood = true then rising.enterOn else rising) ∧
    s.enterFalling = { s with power := { s.power with
      state := .falling, riseTimer := none, downPending := false, fallTimer := some s.config.fallTime } } ∧
    (let off : State := State.startPass { s with
        events := s.events ||| (1#10 <<< 7)
        power := { s.power with state := .off, fallTimer := none, wakePending := false } };
      s.enterOff = if s.power.wakePending = true ∧ s.bus.autoWake = true then off.enterRising else off) ∧
    (∀ r inc, s.enterFault r inc = { s with
      events := s.events ||| (1#10 <<< 8)
      power := { s.power with
        state := .fault, downPending := false, wakePending := false, riseTimer := none, fallTimer := none,
        faultReason := r, dischargeIncomplete := inc } }) ∧
    s.wakeRequest = (match s.power.state with
      | .off => s.enterRising
      | .discharging | .falling => { s with power := { s.power with wakePending := true } }
      | .rising | .on | .fault => s) ∧
    (s.phase = .inReset → exec .pgoodRise s = .next { s with pgood := true } ∧
      exec .pgoodFall s = .next { s with pgood := false }) ∧
    (s.runs →
      (s.power.state = .rising → exec .pgoodRise s = .next (State.enterOn { s with pgood := true }).settle) ∧
      (s.power.state ≠ .rising → exec .pgoodRise s = .next { s with pgood := true }) ∧
      (s.power.state = .on ∨ s.power.state = .discharging →
        exec .pgoodFall s = .next (State.settle (State.cutSlots
          (State.enterFault { s with pgood := false } .supplyLost (decide (s.power.state = .discharging)))
          .fault slotNumbers))) ∧
      (s.power.state ≠ .on → s.power.state ≠ .discharging → exec .pgoodFall s = .next { s with pgood := false }) ∧
      (s.power.state = .rising → exec .riseTimerExpiry s = .next (s.enterFault .riseTimeout false)) ∧
      (s.power.state ≠ .rising → exec .riseTimerExpiry s = .next s) ∧
      (s.power.state = .falling → s.pgood = true →
        exec .fallTimerExpiry s = .next (s.enterFault .fallTimeout false)) ∧
      (s.power.state = .falling → s.pgood = false → exec .fallTimerExpiry s = .next s.enterOff.settle) ∧
      (s.power.state ≠ .falling → exec .fallTimerExpiry s = .next s))

/-- R126, R127: what the sequencer does with a frame start, and the two counts that are reached. That IDLE_COUNT_REACHED
and DISCHARGE_COUNT_REACHED are the frame start that reaches the count, and change nothing where the next frame start
does not reach it, is the model's choice (log 9). -/
def Obligations.CountedFrames : Prop :=
  (∀ s : State,
    let idle := (∀ n, (s.slot n).state ≠ .starting ∧ (s.slot n).state ≠ .driving) ∧ ∀ e ∈ s.queue, e.state ≠ .waiting
    let count (c : Nat) : State := { s with power := { s.power with idleCount := c } }
    let discharging (c : Nat) : State := { s with power := { s.power with
      state := .discharging, idleCount := c, downPending := false, dischargeCount := 0 } }
    (s.power.state = .on → ¬idle → s.config.idleFrames ≠ 0 → s.powerFrame = count 0) ∧
    (s.power.state = .on → s.config.idleFrames = 0 → idle → s.powerFrame = count (min 255 (s.power.idleCount + 1))) ∧
    (s.power.state = .on → s.config.idleFrames = 0 → ¬idle → s.powerFrame = count 0) ∧
    (s.power.state = .on → idle → min 255 (s.power.idleCount + 1) < s.config.idleFrames →
      s.powerFrame = count (min 255 (s.power.idleCount + 1))) ∧
    (s.power.state = .on → idle → s.config.idleFrames ≠ 0 →
      s.config.idleFrames ≤ min 255 (s.power.idleCount + 1) →
      s.powerFrame = discharging (min 255 (s.power.idleCount + 1))) ∧
    (s.power.state = .discharging → s.power.dischargeCount < s.config.dischargeFrames → s.powerFrame = s) ∧
    (s.power.state = .discharging → s.config.dischargeFrames ≤ s.power.dischargeCount →
      s.powerFrame = s.enterFalling) ∧
    (s.power.state ≠ .on → s.power.state ≠ .discharging → s.powerFrame = s)) ∧
  ∀ (s : State) (order : FrameOrder), s.runs →
    (s.power.state = .on → (∀ n, (s.slot n).state ≠ .starting ∧ (s.slot n).state ≠ .driving) →
      (∀ e ∈ s.queue, e.state ≠ .waiting) → s.config.idleFrames ≠ 0 →
      s.config.idleFrames ≤ min 255 (s.power.idleCount + 1) → s.idleReaches order = true) ∧
    (s.idleReaches order = true → ∃ t, exec (.idleCountReached order) s = .next t ∧
      exec (.frameStart order) s = .next t ∧ t.power.state = .discharging ∧ t.power.dischargeCount = 1 ∧
      t.frame = ⟨some s.config.frameTime, false, s.frame.counter + 1⟩) ∧
    (s.idleReaches order = false → exec (.idleCountReached order) s = .next s) ∧
    (s.power.state = .discharging → s.config.dischargeFrames ≤ s.power.dischargeCount →
      ∃ t, exec .dischargeCountReached s = .next t ∧ t.power.state = .falling ∧
        t.power.fallTimer = some s.config.fallTime ∧ t.scan = none ∧
        t.frame = ⟨some s.config.frameTime, false, s.frame.counter + 1⟩) ∧
    (s.power.state ≠ .discharging ∨ s.power.dischargeCount < s.config.dischargeFrames →
      exec .dischargeCountReached s = .next s)

/-! ### The Temperature Unit (chapter 9) -/

/-- R135, R136, R138, R139, R140: what starts a conversion, the classification of a code, and the end of a conversion. The
model's choices: PERIODIC_CONVERSION_REQUEST is the frame start that reaches the period (log 9), CONVERSION_END in IDLE
changes nothing (log 6). That R139's table is followed also where R140 tells the course of conversions against a
malformed band table otherwise is the model's reading (log 23). -/
def Obligations.Conversions : Prop :=
  (∀ s : State, s.takes →
    exec .sampleTemp s = .next (if s.temp.converting = true then s.answered 0x0E .busy
      else { s.answered 0x0E .accepted with temp := { s.temp with converting := true } })) ∧
  (∀ s : State, s.temperatureFrame =
    if s.config.tempPeriod = 0 then { s with temp := { s.temp with periodCount := 0 } }
    else if s.config.tempPeriod ≤ s.temp.periodCount + 1 then
      { s with temp := { s.temp with periodCount := 0, converting := true } }
    else { s with temp := { s.temp with periodCount := s.temp.periodCount + 1 } }) ∧
  (∀ (s : State) (order : FrameOrder), s.runs →
    (s.config.tempPeriod ≠ 0 → s.config.tempPeriod ≤ s.temp.periodCount + 1 →
      ∃ t, exec (.periodicConversionRequest order) s = .next t ∧ exec (.frameStart order) s = .next t ∧
        t.temp = { s.temp with periodCount := 0, converting := true }) ∧
    (s.config.tempPeriod = 0 ∨ s.temp.periodCount + 1 < s.config.tempPeriod →
      exec (.periodicConversionRequest order) s = .next s)) ∧
  (∀ (u : TempUnit) (code : Nat),
    let n := u.bandCount.toNat
    let good := 1 ≤ n ∧ n ≤ 8 ∧
      (∀ b : Fin 8, b.val < n → 1 ≤ (u.upper[b]).toNat ∧ (u.upper[b]).toNat ≤ 1024) ∧
      (∀ b c : Fin 8, b.val + 1 = c.val → c.val < n → (u.upper[b]).toNat < (u.upper[c]).toNat) ∧
      u.lowLimit.toNat < (u.upper[0]).toNat
    (¬good → u.classify code = (.out, .bandTableBad)) ∧
    (good → code < u.lowLimit.toNat → u.classify code = (.out, .below)) ∧
    (good → ∀ b : Fin 8, b.val + 1 = n → (u.upper[b]).toNat ≤ code → u.classify code = (.out, .above)) ∧
    (good → u.lowLimit.toNat ≤ code → ∀ b : Fin 8, b.val < n → code < (u.upper[b]).toNat →
      (∀ c : Fin 8, c.val < b.val → (u.upper[c]).toNat ≤ code) → u.classify code = (.band b, .none))) ∧
  (∀ (s : State) (code : BitVec 10), s.runs →
    let c := (s.temp.classify code.toNat).1
    let ended : TempUnit := { s.temp with
      converting := false, code := code, last := some c, reason := (s.temp.classify code.toNat).2 }
    (s.temp.converting = false → exec (.conversionEnd code) s = .next s) ∧
    (s.temp.converting = true →
      (s.temp.current = none ∨ (s.temp.current ≠ some c ∧ s.temp.candidate = some c) →
        exec (.conversionEnd code) s = .next (State.startPass { s with
          temp := { ended with current := some c, candidate := none }
          events := s.events ||| (1#10 <<< 6) }).settle) ∧
      (s.temp.current = some c →
        exec (.conversionEnd code) s = .next { s with temp := { ended with candidate := none } }) ∧
      (s.temp.current ≠ none → s.temp.current ≠ some c → s.temp.candidate ≠ some c →
        exec (.conversionEnd code) s = .next { s with temp := { ended with candidate := some c } })))

/-! ### Resets (R5, R56, R162, R163 and each block's reset rule) -/

/-- R162: a pin reset, the release of nRESET, and the application of VDD. The planes, the pair maps and the row pool keep
their contents over a pin reset, and hold free values after the application of VDD (log 1, log 2); while nRESET is low
no event of the part comes about, the outputs stand at their levels and D[15:0] is not driven; PWR_EN is low from the
application of VDD. VDD applied with nRESET low leaves every block, the bus registers (R161) and the descriptors (R56)
among them, at its pin-reset state, but for the free values and the word last read. The model's choices: the level of
PGOOD and the word last read are kept over a pin reset (log 3, log 15), SCK is modelled as running or not (log 15), and
RESET_RELEASE and BUS_ACCESS_IN_RESET in a running part change nothing (log 6, log 22). -/
def Obligations.PinResetAndVdd : Prop :=
  ∀ s : State,
    (∃ t, exec .pinReset s = .next t ∧ t.phase = .inReset ∧ t.pgood = s.pgood ∧ t.image = s.image ∧
      t.store.pairs = s.store.pairs ∧ t.store.rows = s.store.rows ∧ t.freeIndex = s.freeIndex ∧
      t.pending = s.pending ∧ t.frame = ⟨none, false, 0⟩ ∧
      t.bus = { BusInterface.reset with busData := if s.bus.stretched = some .read then 0 else s.bus.busData } ∧
      { t with
        pending := [], phase := .running, freeIndex := 0, pgood := false, image := State.reset.image,
        store := { t.store with pairs := [], rows := [] }, bus := BusInterface.reset,
        frame := State.reset.frame } = State.reset ∧
      t.oe = false ∧ t.gst = false ∧ t.sckRunning = false ∧ t.sle = false ∧ t.gck = false ∧
      t.sdo = List.replicate 8 .neutral ∧ t.nINT = true ∧ t.dreq = false ∧ t.nWait = true ∧ t.pwrEn = false ∧
      t.dataBus = none) ∧
    (s.dataBus = none ↔ s.phase = .inReset) ∧ (s.phase ≠ .inReset → s.dataBus = some s.bus.busData) ∧
    (s.phase = .inReset → exec .resetRelease s = .next { s with
      phase := .running, frame := { s.frame with period := some s.config.frameTime } }) ∧
    (s.phase = .running → exec .resetRelease s = .next s ∧ ∀ a, exec (.busAccessInReset a) s = .next s) ∧
    (∃ t, exec .vddApplied s = .next t ∧ t.pending = s.pending ∧ t.pgood = s.pgood ∧
      t.freeIndex = s.freeIndex + 1 ∧ t.power = PowerSequencer.reset ∧ t.pwrEn = false ∧
      t.phase = (if s.phase = .inReset then .inReset else .undefined) ∧
      (∀ p x y, t.pixel p x y = Config.powerUpLevel t.freeIndex p (pixelAddress x y)) ∧
      (∀ k, t.pairAt k = Config.powerUpPair t.freeIndex k ∧ t.rowWordAt k = Config.powerUpRow t.freeIndex k) ∧
      (s.phase = .inReset →
        { t with
          freeIndex := s.freeIndex, image := s.image, store := { t.store with pairs := [], rows := [] },
          bus := { t.bus with busData := 0 } } =
        { State.reset with
          pending := s.pending, phase := .inReset, freeIndex := s.freeIndex, pgood := s.pgood, image := s.image,
          frame := ⟨none, false, 0⟩ })) ∧
    (∀ c, s.phase = .undefined → c ≠ .pinReset → ∃ t, exec c s = .next t ∧ t.phase = .undefined ∧
      t.power = PowerSequencer.reset ∧ t.pwrEn = false) ∧
    (∀ c, s.phase = .inReset → c.isBusRead = false → c ≠ .vddApplied → c ≠ .pinReset → c ≠ .resetRelease →
      c ≠ .pgoodRise → c ≠ .pgoodFall → exec c s = .next s)

/-- R14, R36, R57, R73, R91, R108, R120, R133, R142, R152, R161: SOFT_RESET, block by block. That the cleared record of the
Load Engine holds zeros is the model's choice (log 19). -/
def Obligations.SoftResetEffect : Prop :=
  ∀ s : State, s.takes → ∃ t, exec .softReset s = .next t ∧
    t.bus = { s.bus with command := 0x0F, cmdResult := .accepted } ∧ t.config = s.config ∧ t.events = 0 ∧
    t.eventMask = s.eventMask ∧ t.image = s.image ∧
    t.load = { LoadEngine.reset with
      endReason := s.load.endReason, errReason := s.load.errReason, loadResult := s.load.loadResult } ∧
    (∀ m, t.mode m = if (s.mode m).state = .checking then { s.mode m with state := .opened, badReason := none }
      else s.mode m) ∧
    t.store.pairs = s.store.pairs ∧ t.store.rows = s.store.rows ∧ t.store.checkMode = s.store.checkMode ∧
    t.store.checkResult = s.store.checkResult ∧
    t.queue = [] ∧ t.dispatcher = ⟨false, false⟩ ∧ (∀ n, t.slot n = Slot.cleared) ∧
    (∀ k : Nat, t.tiles[k]? = s.tiles[k]?.map fun tile =>
      match tile.owner with
      | none => tile
      | some n => if (s.slot n).drivenAnything = true then ⟨none, false, tile.count⟩ else ⟨none, tile.known, tile.count⟩) ∧
    t.jobs = [] ∧ t.plan = [] ∧ t.scan = none ∧ t.frame = ⟨some s.config.frameTime, false, 0⟩ ∧
    t.completions = [] ∧ t.posters = [] ∧
    t.temp = { s.temp with converting := false, periodCount := 0 } ∧
    (t.power = { s.power with
      state := if s.power.state = .off then .off else .falling
      downPending := false, wakePending := false, idleCount := 0, dischargeCount := 0
      riseTimer := if s.power.state = .off ∨ s.power.state = .falling then s.power.riseTimer else none
      fallTimer := if s.power.state = .off ∨ s.power.state = .falling then s.power.fallTimer
        else some s.config.fallTime }) ∧
    t.pending = s.pending ∧ t.phase = s.phase ∧ t.freeIndex = s.freeIndex ∧ t.pgood = s.pgood

/-! ### Invariants -/

/-- R161, R162 and each block's reset rule: the reset state, every field of it, and every invariant below in it. The
model's choices: State.reset stands after the release of nRESET with PGOOD low (log 3), the word last read is 0 (log 15),
the index of the free values is 0 (log 2), and the cleared record of the Load Engine holds zeros (log 19). -/
def Obligations.ResetState : Prop :=
  let r := State.reset
  r.pending = [] ∧ r.phase = .running ∧ r.freeIndex = 0 ∧ r.pgood = false ∧
    r.bus = ⟨false, false, 0, 0, .accepted, Vector.replicate 6 0, 0, 0, false, false, 0, none⟩ ∧
    r.config = ⟨200, 40, 20, 25, 8, 6, 0, 2, 50, 1024, 768⟩ ∧
    r.events = 0 ∧ r.eventMask = 0 ∧ r.image = ⟨[], [], []⟩ ∧
    r.load = ⟨.closed, .write, .target, ⟨0, 0, 0, 0⟩, 0, 0, 0, false, false, ⟨0, 0, false, false⟩, 0, [], 0, [], 0,
      .none, .none, .accepted⟩ ∧
    (∀ m, r.mode m = ⟨.empty, none, 0, false, false, 0, 0, 0, Vector.replicate 8 0, 0⟩) ∧
    r.store.pairs = [] ∧ r.store.rows = [] ∧ r.store.checkMode = 0 ∧ r.store.checkResult = .none ∧
    r.queue = [] ∧ r.dispatcher = ⟨false, false⟩ ∧
    (∀ n, r.slot n = ⟨.free, 0, ⟨0, 0, 0, 0⟩, 0, 0, 0, 0, 0, none, false, none, false, false, false, false⟩) ∧
    r.tiles.length = 3072 ∧ (∀ t ∈ r.tiles, t = ⟨none, false, 0⟩) ∧ r.jobs = [] ∧ r.plan = [] ∧ r.scan = none ∧
    r.frame = ⟨some 200, false, 0⟩ ∧
    r.power = ⟨.off, false, false, 0, 0, none, none, .none, false⟩ ∧
    r.temp = ⟨false, 0, none, none, none, .none, 0, 0, 1, #v[1024, 0, 0, 0, 0, 0, 0, 0]⟩ ∧
    r.completions = [] ∧ r.posters = [] ∧
    r.settled = true ∧ r.storesCanonical = true ∧ r.withinCapacity = true ∧ r.config.inRange = true ∧
    r.tileMapFits = true ∧ r.usedModesReady ∧ r.jobsSound ∧ r.ownersAgree ∧ r.driveSound ∧ r.requestsSound

/-- Every step of a part that has been reset leaves nothing over (`State.settled`), and outside the running phase the
sequencer is OFF. -/
def Obligations.StepsEndSettled : Prop :=
  ∀ s t : State, (s.phase ≠ .undefined → s.settled = true) → (s.phase ≠ .running → s.power.state = .off) →
    step s = .next t →
    (t.phase ≠ .undefined → t.settled = true) ∧ (t.phase ≠ .running → t.power.state = .off)

/-- The planes, pair maps and row pool keep their canonical form; in a part that has been reset, the queues keep to their
capacities, every configuration field to its range, and the tile map to the geometry (R11, R16, R22, R59, R144, R156). -/
def Obligations.StoresStaySound : Prop :=
  (∀ s t : State, s.storesCanonical = true → step s = .next t → t.storesCanonical = true) ∧
  (∀ s t : State,
    (s.phase = .undefined ∨
      (s.withinCapacity = true ∧ s.config.inRange = true ∧ s.tileMapFits = true)) →
    step s = .next t →
    t.phase = .undefined ∨ (t.withinCapacity = true ∧ t.config.inRange = true ∧ t.tileMapFits = true))

/-- Law 8: a mode that some live request refers to is READY. -/
def Obligations.UsedModesStayReady : Prop :=
  ∀ s t : State, (s.phase = .undefined ∨ (s.jobsSound ∧ s.usedModesReady)) → step s = .next t →
    t.phase = .undefined ∨ (t.jobsSound ∧ t.usedModesReady)

/-- R12: the owners of the tile map and the claim sets of the slots that are not FREE agree. -/
def Obligations.OwnersStayInAgreement : Prop :=
  ∀ s t : State, (s.phase = .undefined ∨ (s.jobsSound ∧ s.ownersAgree)) → step s = .next t →
    t.phase = .undefined ∨ (t.jobsSound ∧ t.ownersAgree)

/-- R42, R92, R94, R98, R99, R115: what the drive port's safety rests on is kept by every step. -/
def Obligations.DriveStaysSound : Prop :=
  ∀ s t : State, (s.phase = .undefined ∨ s.driveSound) → step s = .next t →
    t.phase = .undefined ∨ t.driveSound

/-- R60, R145: the live tags stay distinct, and the waiting-poster list stays exact. -/
def Obligations.RequestsStaySound : Prop :=
  ∀ s t : State, (s.phase = .undefined ∨ (s.jobsSound ∧ s.requestsSound)) → step s = .next t →
    t.phase = .undefined ∨ (t.jobsSound ∧ t.requestsSound)

end Statements
end

