-- ==== Sys2Proof/Laws/State.lean ====
section
/-! SUPPORT. One lemma per field per plain update of the state, each true by unfolding: what the update leaves alone. -/

namespace Sys2Proof.Machine

@[simp] theorem raise_pending (s : State) (e : Event) : (s.raise e).pending = s.pending := rfl
@[simp] theorem raise_phase (s : State) (e : Event) : (s.raise e).phase = s.phase := rfl
@[simp] theorem raise_freeIndex (s : State) (e : Event) : (s.raise e).freeIndex = s.freeIndex := rfl
@[simp] theorem raise_pgood (s : State) (e : Event) : (s.raise e).pgood = s.pgood := rfl
@[simp] theorem raise_bus (s : State) (e : Event) : (s.raise e).bus = s.bus := rfl
@[simp] theorem raise_config (s : State) (e : Event) : (s.raise e).config = s.config := rfl
@[simp] theorem raise_eventMask (s : State) (e : Event) : (s.raise e).eventMask = s.eventMask := rfl
@[simp] theorem raise_image (s : State) (e : Event) : (s.raise e).image = s.image := rfl
@[simp] theorem raise_load (s : State) (e : Event) : (s.raise e).load = s.load := rfl
@[simp] theorem raise_store (s : State) (e : Event) : (s.raise e).store = s.store := rfl
@[simp] theorem raise_queue (s : State) (e : Event) : (s.raise e).queue = s.queue := rfl
@[simp] theorem raise_dispatcher (s : State) (e : Event) : (s.raise e).dispatcher = s.dispatcher := rfl
@[simp] theorem raise_slots (s : State) (e : Event) : (s.raise e).slots = s.slots := rfl
@[simp] theorem raise_tiles (s : State) (e : Event) : (s.raise e).tiles = s.tiles := rfl
@[simp] theorem raise_jobs (s : State) (e : Event) : (s.raise e).jobs = s.jobs := rfl
@[simp] theorem raise_plan (s : State) (e : Event) : (s.raise e).plan = s.plan := rfl
@[simp] theorem raise_frame (s : State) (e : Event) : (s.raise e).frame = s.frame := rfl
@[simp] theorem raise_scan (s : State) (e : Event) : (s.raise e).scan = s.scan := rfl
@[simp] theorem raise_power (s : State) (e : Event) : (s.raise e).power = s.power := rfl
@[simp] theorem raise_temp (s : State) (e : Event) : (s.raise e).temp = s.temp := rfl
@[simp] theorem raise_completions (s : State) (e : Event) : (s.raise e).completions = s.completions := rfl
@[simp] theorem raise_posters (s : State) (e : Event) : (s.raise e).posters = s.posters := rfl

@[simp] theorem clearFlags_pending (s : State) (w : Word) : (s.clearFlags w).pending = s.pending := rfl
@[simp] theorem clearFlags_phase (s : State) (w : Word) : (s.clearFlags w).phase = s.phase := rfl
@[simp] theorem clearFlags_freeIndex (s : State) (w : Word) : (s.clearFlags w).freeIndex = s.freeIndex := rfl
@[simp] theorem clearFlags_pgood (s : State) (w : Word) : (s.clearFlags w).pgood = s.pgood := rfl
@[simp] theorem clearFlags_bus (s : State) (w : Word) : (s.clearFlags w).bus = s.bus := rfl
@[simp] theorem clearFlags_config (s : State) (w : Word) : (s.clearFlags w).config = s.config := rfl
@[simp] theorem clearFlags_eventMask (s : State) (w : Word) : (s.clearFlags w).eventMask = s.eventMask := rfl
@[simp] theorem clearFlags_image (s : State) (w : Word) : (s.clearFlags w).image = s.image := rfl
@[simp] theorem clearFlags_load (s : State) (w : Word) : (s.clearFlags w).load = s.load := rfl
@[simp] theorem clearFlags_store (s : State) (w : Word) : (s.clearFlags w).store = s.store := rfl
@[simp] theorem clearFlags_queue (s : State) (w : Word) : (s.clearFlags w).queue = s.queue := rfl
@[simp] theorem clearFlags_dispatcher (s : State) (w : Word) : (s.clearFlags w).dispatcher = s.dispatcher := rfl
@[simp] theorem clearFlags_slots (s : State) (w : Word) : (s.clearFlags w).slots = s.slots := rfl
@[simp] theorem clearFlags_tiles (s : State) (w : Word) : (s.clearFlags w).tiles = s.tiles := rfl
@[simp] theorem clearFlags_jobs (s : State) (w : Word) : (s.clearFlags w).jobs = s.jobs := rfl
@[simp] theorem clearFlags_plan (s : State) (w : Word) : (s.clearFlags w).plan = s.plan := rfl
@[simp] theorem clearFlags_frame (s : State) (w : Word) : (s.clearFlags w).frame = s.frame := rfl
@[simp] theorem clearFlags_scan (s : State) (w : Word) : (s.clearFlags w).scan = s.scan := rfl
@[simp] theorem clearFlags_power (s : State) (w : Word) : (s.clearFlags w).power = s.power := rfl
@[simp] theorem clearFlags_temp (s : State) (w : Word) : (s.clearFlags w).temp = s.temp := rfl
@[simp] theorem clearFlags_completions (s : State) (w : Word) : (s.clearFlags w).completions = s.completions := rfl
@[simp] theorem clearFlags_posters (s : State) (w : Word) : (s.clearFlags w).posters = s.posters := rfl

@[simp] theorem refuseConfig_pending (s : State) : (s.refuseConfig).pending = s.pending := rfl
@[simp] theorem refuseConfig_phase (s : State) : (s.refuseConfig).phase = s.phase := rfl
@[simp] theorem refuseConfig_freeIndex (s : State) : (s.refuseConfig).freeIndex = s.freeIndex := rfl
@[simp] theorem refuseConfig_pgood (s : State) : (s.refuseConfig).pgood = s.pgood := rfl
@[simp] theorem refuseConfig_config (s : State) : (s.refuseConfig).config = s.config := rfl
@[simp] theorem refuseConfig_events (s : State) : (s.refuseConfig).events = s.events := rfl
@[simp] theorem refuseConfig_eventMask (s : State) : (s.refuseConfig).eventMask = s.eventMask := rfl
@[simp] theorem refuseConfig_image (s : State) : (s.refuseConfig).image = s.image := rfl
@[simp] theorem refuseConfig_load (s : State) : (s.refuseConfig).load = s.load := rfl
@[simp] theorem refuseConfig_store (s : State) : (s.refuseConfig).store = s.store := rfl
@[simp] theorem refuseConfig_queue (s : State) : (s.refuseConfig).queue = s.queue := rfl
@[simp] theorem refuseConfig_dispatcher (s : State) : (s.refuseConfig).dispatcher = s.dispatcher := rfl
@[simp] theorem refuseConfig_slots (s : State) : (s.refuseConfig).slots = s.slots := rfl
@[simp] theorem refuseConfig_tiles (s : State) : (s.refuseConfig).tiles = s.tiles := rfl
@[simp] theorem refuseConfig_jobs (s : State) : (s.refuseConfig).jobs = s.jobs := rfl
@[simp] theorem refuseConfig_plan (s : State) : (s.refuseConfig).plan = s.plan := rfl
@[simp] theorem refuseConfig_frame (s : State) : (s.refuseConfig).frame = s.frame := rfl
@[simp] theorem refuseConfig_scan (s : State) : (s.refuseConfig).scan = s.scan := rfl
@[simp] theorem refuseConfig_power (s : State) : (s.refuseConfig).power = s.power := rfl
@[simp] theorem refuseConfig_temp (s : State) : (s.refuseConfig).temp = s.temp := rfl
@[simp] theorem refuseConfig_completions (s : State) : (s.refuseConfig).completions = s.completions := rfl
@[simp] theorem refuseConfig_posters (s : State) : (s.refuseConfig).posters = s.posters := rfl

@[simp] theorem refuseTable_pending (s : State) : (s.refuseTable).pending = s.pending := rfl
@[simp] theorem refuseTable_phase (s : State) : (s.refuseTable).phase = s.phase := rfl
@[simp] theorem refuseTable_freeIndex (s : State) : (s.refuseTable).freeIndex = s.freeIndex := rfl
@[simp] theorem refuseTable_pgood (s : State) : (s.refuseTable).pgood = s.pgood := rfl
@[simp] theorem refuseTable_config (s : State) : (s.refuseTable).config = s.config := rfl
@[simp] theorem refuseTable_eventMask (s : State) : (s.refuseTable).eventMask = s.eventMask := rfl
@[simp] theorem refuseTable_image (s : State) : (s.refuseTable).image = s.image := rfl
@[simp] theorem refuseTable_load (s : State) : (s.refuseTable).load = s.load := rfl
@[simp] theorem refuseTable_store (s : State) : (s.refuseTable).store = s.store := rfl
@[simp] theorem refuseTable_queue (s : State) : (s.refuseTable).queue = s.queue := rfl
@[simp] theorem refuseTable_dispatcher (s : State) : (s.refuseTable).dispatcher = s.dispatcher := rfl
@[simp] theorem refuseTable_slots (s : State) : (s.refuseTable).slots = s.slots := rfl
@[simp] theorem refuseTable_tiles (s : State) : (s.refuseTable).tiles = s.tiles := rfl
@[simp] theorem refuseTable_jobs (s : State) : (s.refuseTable).jobs = s.jobs := rfl
@[simp] theorem refuseTable_plan (s : State) : (s.refuseTable).plan = s.plan := rfl
@[simp] theorem refuseTable_frame (s : State) : (s.refuseTable).frame = s.frame := rfl
@[simp] theorem refuseTable_scan (s : State) : (s.refuseTable).scan = s.scan := rfl
@[simp] theorem refuseTable_power (s : State) : (s.refuseTable).power = s.power := rfl
@[simp] theorem refuseTable_temp (s : State) : (s.refuseTable).temp = s.temp := rfl
@[simp] theorem refuseTable_completions (s : State) : (s.refuseTable).completions = s.completions := rfl
@[simp] theorem refuseTable_posters (s : State) : (s.refuseTable).posters = s.posters := rfl

@[simp] theorem clearSticky_pending (s : State) : (s.clearSticky).pending = s.pending := rfl
@[simp] theorem clearSticky_phase (s : State) : (s.clearSticky).phase = s.phase := rfl
@[simp] theorem clearSticky_freeIndex (s : State) : (s.clearSticky).freeIndex = s.freeIndex := rfl
@[simp] theorem clearSticky_pgood (s : State) : (s.clearSticky).pgood = s.pgood := rfl
@[simp] theorem clearSticky_config (s : State) : (s.clearSticky).config = s.config := rfl
@[simp] theorem clearSticky_events (s : State) : (s.clearSticky).events = s.events := rfl
@[simp] theorem clearSticky_eventMask (s : State) : (s.clearSticky).eventMask = s.eventMask := rfl
@[simp] theorem clearSticky_image (s : State) : (s.clearSticky).image = s.image := rfl
@[simp] theorem clearSticky_load (s : State) : (s.clearSticky).load = s.load := rfl
@[simp] theorem clearSticky_store (s : State) : (s.clearSticky).store = s.store := rfl
@[simp] theorem clearSticky_queue (s : State) : (s.clearSticky).queue = s.queue := rfl
@[simp] theorem clearSticky_dispatcher (s : State) : (s.clearSticky).dispatcher = s.dispatcher := rfl
@[simp] theorem clearSticky_slots (s : State) : (s.clearSticky).slots = s.slots := rfl
@[simp] theorem clearSticky_tiles (s : State) : (s.clearSticky).tiles = s.tiles := rfl
@[simp] theorem clearSticky_jobs (s : State) : (s.clearSticky).jobs = s.jobs := rfl
@[simp] theorem clearSticky_plan (s : State) : (s.clearSticky).plan = s.plan := rfl
@[simp] theorem clearSticky_frame (s : State) : (s.clearSticky).frame = s.frame := rfl
@[simp] theorem clearSticky_scan (s : State) : (s.clearSticky).scan = s.scan := rfl
@[simp] theorem clearSticky_power (s : State) : (s.clearSticky).power = s.power := rfl
@[simp] theorem clearSticky_temp (s : State) : (s.clearSticky).temp = s.temp := rfl
@[simp] theorem clearSticky_completions (s : State) : (s.clearSticky).completions = s.completions := rfl
@[simp] theorem clearSticky_posters (s : State) : (s.clearSticky).posters = s.posters := rfl

@[simp] theorem answered_pending (s : State) (code : Word) (r : Result) : (s.answered code r).pending = s.pending := rfl
@[simp] theorem answered_phase (s : State) (code : Word) (r : Result) : (s.answered code r).phase = s.phase := rfl
@[simp] theorem answered_freeIndex (s : State) (code : Word) (r : Result) : (s.answered code r).freeIndex = s.freeIndex := rfl
@[simp] theorem answered_pgood (s : State) (code : Word) (r : Result) : (s.answered code r).pgood = s.pgood := rfl
@[simp] theorem answered_config (s : State) (code : Word) (r : Result) : (s.answered code r).config = s.config := rfl
@[simp] theorem answered_events (s : State) (code : Word) (r : Result) : (s.answered code r).events = s.events := rfl
@[simp] theorem answered_eventMask (s : State) (code : Word) (r : Result) : (s.answered code r).eventMask = s.eventMask := rfl
@[simp] theorem answered_image (s : State) (code : Word) (r : Result) : (s.answered code r).image = s.image := rfl
@[simp] theorem answered_load (s : State) (code : Word) (r : Result) : (s.answered code r).load = s.load := rfl
@[simp] theorem answered_store (s : State) (code : Word) (r : Result) : (s.answered code r).store = s.store := rfl
@[simp] theorem answered_queue (s : State) (code : Word) (r : Result) : (s.answered code r).queue = s.queue := rfl
@[simp] theorem answered_dispatcher (s : State) (code : Word) (r : Result) : (s.answered code r).dispatcher = s.dispatcher := rfl
@[simp] theorem answered_slots (s : State) (code : Word) (r : Result) : (s.answered code r).slots = s.slots := rfl
@[simp] theorem answered_tiles (s : State) (code : Word) (r : Result) : (s.answered code r).tiles = s.tiles := rfl
@[simp] theorem answered_jobs (s : State) (code : Word) (r : Result) : (s.answered code r).jobs = s.jobs := rfl
@[simp] theorem answered_plan (s : State) (code : Word) (r : Result) : (s.answered code r).plan = s.plan := rfl
@[simp] theorem answered_frame (s : State) (code : Word) (r : Result) : (s.answered code r).frame = s.frame := rfl
@[simp] theorem answered_scan (s : State) (code : Word) (r : Result) : (s.answered code r).scan = s.scan := rfl
@[simp] theorem answered_power (s : State) (code : Word) (r : Result) : (s.answered code r).power = s.power := rfl
@[simp] theorem answered_temp (s : State) (code : Word) (r : Result) : (s.answered code r).temp = s.temp := rfl
@[simp] theorem answered_completions (s : State) (code : Word) (r : Result) : (s.answered code r).completions = s.completions := rfl
@[simp] theorem answered_posters (s : State) (code : Word) (r : Result) : (s.answered code r).posters = s.posters := rfl

@[simp] theorem advanceIndex_pending (s : State) : (s.advanceIndex).pending = s.pending := rfl
@[simp] theorem advanceIndex_phase (s : State) : (s.advanceIndex).phase = s.phase := rfl
@[simp] theorem advanceIndex_freeIndex (s : State) : (s.advanceIndex).freeIndex = s.freeIndex := rfl
@[simp] theorem advanceIndex_pgood (s : State) : (s.advanceIndex).pgood = s.pgood := rfl
@[simp] theorem advanceIndex_config (s : State) : (s.advanceIndex).config = s.config := rfl
@[simp] theorem advanceIndex_events (s : State) : (s.advanceIndex).events = s.events := rfl
@[simp] theorem advanceIndex_eventMask (s : State) : (s.advanceIndex).eventMask = s.eventMask := rfl
@[simp] theorem advanceIndex_image (s : State) : (s.advanceIndex).image = s.image := rfl
@[simp] theorem advanceIndex_load (s : State) : (s.advanceIndex).load = s.load := rfl
@[simp] theorem advanceIndex_store (s : State) : (s.advanceIndex).store = s.store := rfl
@[simp] theorem advanceIndex_queue (s : State) : (s.advanceIndex).queue = s.queue := rfl
@[simp] theorem advanceIndex_dispatcher (s : State) : (s.advanceIndex).dispatcher = s.dispatcher := rfl
@[simp] theorem advanceIndex_slots (s : State) : (s.advanceIndex).slots = s.slots := rfl
@[simp] theorem advanceIndex_tiles (s : State) : (s.advanceIndex).tiles = s.tiles := rfl
@[simp] theorem advanceIndex_jobs (s : State) : (s.advanceIndex).jobs = s.jobs := rfl
@[simp] theorem advanceIndex_plan (s : State) : (s.advanceIndex).plan = s.plan := rfl
@[simp] theorem advanceIndex_frame (s : State) : (s.advanceIndex).frame = s.frame := rfl
@[simp] theorem advanceIndex_scan (s : State) : (s.advanceIndex).scan = s.scan := rfl
@[simp] theorem advanceIndex_power (s : State) : (s.advanceIndex).power = s.power := rfl
@[simp] theorem advanceIndex_temp (s : State) : (s.advanceIndex).temp = s.temp := rfl
@[simp] theorem advanceIndex_completions (s : State) : (s.advanceIndex).completions = s.completions := rfl
@[simp] theorem advanceIndex_posters (s : State) : (s.advanceIndex).posters = s.posters := rfl

@[simp] theorem writePixel_pending (s : State) (p : Plane) (x y : Nat) (l : Level) : (s.writePixel p x y l).pending = s.pending := rfl
@[simp] theorem writePixel_phase (s : State) (p : Plane) (x y : Nat) (l : Level) : (s.writePixel p x y l).phase = s.phase := rfl
@[simp] theorem writePixel_freeIndex (s : State) (p : Plane) (x y : Nat) (l : Level) : (s.writePixel p x y l).freeIndex = s.freeIndex := rfl
@[simp] theorem writePixel_pgood (s : State) (p : Plane) (x y : Nat) (l : Level) : (s.writePixel p x y l).pgood = s.pgood := rfl
@[simp] theorem writePixel_bus (s : State) (p : Plane) (x y : Nat) (l : Level) : (s.writePixel p x y l).bus = s.bus := rfl
@[simp] theorem writePixel_config (s : State) (p : Plane) (x y : Nat) (l : Level) : (s.writePixel p x y l).config = s.config := rfl
@[simp] theorem writePixel_events (s : State) (p : Plane) (x y : Nat) (l : Level) : (s.writePixel p x y l).events = s.events := rfl
@[simp] theorem writePixel_eventMask (s : State) (p : Plane) (x y : Nat) (l : Level) : (s.writePixel p x y l).eventMask = s.eventMask := rfl
@[simp] theorem writePixel_load (s : State) (p : Plane) (x y : Nat) (l : Level) : (s.writePixel p x y l).load = s.load := rfl
@[simp] theorem writePixel_store (s : State) (p : Plane) (x y : Nat) (l : Level) : (s.writePixel p x y l).store = s.store := rfl
@[simp] theorem writePixel_queue (s : State) (p : Plane) (x y : Nat) (l : Level) : (s.writePixel p x y l).queue = s.queue := rfl
@[simp] theorem writePixel_dispatcher (s : State) (p : Plane) (x y : Nat) (l : Level) : (s.writePixel p x y l).dispatcher = s.dispatcher := rfl
@[simp] theorem writePixel_slots (s : State) (p : Plane) (x y : Nat) (l : Level) : (s.writePixel p x y l).slots = s.slots := rfl
@[simp] theorem writePixel_tiles (s : State) (p : Plane) (x y : Nat) (l : Level) : (s.writePixel p x y l).tiles = s.tiles := rfl
@[simp] theorem writePixel_jobs (s : State) (p : Plane) (x y : Nat) (l : Level) : (s.writePixel p x y l).jobs = s.jobs := rfl
@[simp] theorem writePixel_plan (s : State) (p : Plane) (x y : Nat) (l : Level) : (s.writePixel p x y l).plan = s.plan := rfl
@[simp] theorem writePixel_frame (s : State) (p : Plane) (x y : Nat) (l : Level) : (s.writePixel p x y l).frame = s.frame := rfl
@[simp] theorem writePixel_scan (s : State) (p : Plane) (x y : Nat) (l : Level) : (s.writePixel p x y l).scan = s.scan := rfl
@[simp] theorem writePixel_power (s : State) (p : Plane) (x y : Nat) (l : Level) : (s.writePixel p x y l).power = s.power := rfl
@[simp] theorem writePixel_temp (s : State) (p : Plane) (x y : Nat) (l : Level) : (s.writePixel p x y l).temp = s.temp := rfl
@[simp] theorem writePixel_completions (s : State) (p : Plane) (x y : Nat) (l : Level) : (s.writePixel p x y l).completions = s.completions := rfl
@[simp] theorem writePixel_posters (s : State) (p : Plane) (x y : Nat) (l : Level) : (s.writePixel p x y l).posters = s.posters := rfl

@[simp] theorem updateClaimed_pending (s : State) (r : Rect) (f : Nat → Tile → Tile) : (s.updateClaimed r f).pending = s.pending := rfl
@[simp] theorem updateClaimed_phase (s : State) (r : Rect) (f : Nat → Tile → Tile) : (s.updateClaimed r f).phase = s.phase := rfl
@[simp] theorem updateClaimed_freeIndex (s : State) (r : Rect) (f : Nat → Tile → Tile) : (s.updateClaimed r f).freeIndex = s.freeIndex := rfl
@[simp] theorem updateClaimed_pgood (s : State) (r : Rect) (f : Nat → Tile → Tile) : (s.updateClaimed r f).pgood = s.pgood := rfl
@[simp] theorem updateClaimed_bus (s : State) (r : Rect) (f : Nat → Tile → Tile) : (s.updateClaimed r f).bus = s.bus := rfl
@[simp] theorem updateClaimed_config (s : State) (r : Rect) (f : Nat → Tile → Tile) : (s.updateClaimed r f).config = s.config := rfl
@[simp] theorem updateClaimed_events (s : State) (r : Rect) (f : Nat → Tile → Tile) : (s.updateClaimed r f).events = s.events := rfl
@[simp] theorem updateClaimed_eventMask (s : State) (r : Rect) (f : Nat → Tile → Tile) : (s.updateClaimed r f).eventMask = s.eventMask := rfl
@[simp] theorem updateClaimed_image (s : State) (r : Rect) (f : Nat → Tile → Tile) : (s.updateClaimed r f).image = s.image := rfl
@[simp] theorem updateClaimed_load (s : State) (r : Rect) (f : Nat → Tile → Tile) : (s.updateClaimed r f).load = s.load := rfl
@[simp] theorem updateClaimed_store (s : State) (r : Rect) (f : Nat → Tile → Tile) : (s.updateClaimed r f).store = s.store := rfl
@[simp] theorem updateClaimed_queue (s : State) (r : Rect) (f : Nat → Tile → Tile) : (s.updateClaimed r f).queue = s.queue := rfl
@[simp] theorem updateClaimed_dispatcher (s : State) (r : Rect) (f : Nat → Tile → Tile) : (s.updateClaimed r f).dispatcher = s.dispatcher := rfl
@[simp] theorem updateClaimed_slots (s : State) (r : Rect) (f : Nat → Tile → Tile) : (s.updateClaimed r f).slots = s.slots := rfl
@[simp] theorem updateClaimed_jobs (s : State) (r : Rect) (f : Nat → Tile → Tile) : (s.updateClaimed r f).jobs = s.jobs := rfl
@[simp] theorem updateClaimed_plan (s : State) (r : Rect) (f : Nat → Tile → Tile) : (s.updateClaimed r f).plan = s.plan := rfl
@[simp] theorem updateClaimed_frame (s : State) (r : Rect) (f : Nat → Tile → Tile) : (s.updateClaimed r f).frame = s.frame := rfl
@[simp] theorem updateClaimed_scan (s : State) (r : Rect) (f : Nat → Tile → Tile) : (s.updateClaimed r f).scan = s.scan := rfl
@[simp] theorem updateClaimed_power (s : State) (r : Rect) (f : Nat → Tile → Tile) : (s.updateClaimed r f).power = s.power := rfl
@[simp] theorem updateClaimed_temp (s : State) (r : Rect) (f : Nat → Tile → Tile) : (s.updateClaimed r f).temp = s.temp := rfl
@[simp] theorem updateClaimed_completions (s : State) (r : Rect) (f : Nat → Tile → Tile) : (s.updateClaimed r f).completions = s.completions := rfl
@[simp] theorem updateClaimed_posters (s : State) (r : Rect) (f : Nat → Tile → Tile) : (s.updateClaimed r f).posters = s.posters := rfl

@[simp] theorem claimTiles_pending (s : State) (n : Fin 16) (r : Rect) : (s.claimTiles n r).pending = s.pending := rfl
@[simp] theorem claimTiles_phase (s : State) (n : Fin 16) (r : Rect) : (s.claimTiles n r).phase = s.phase := rfl
@[simp] theorem claimTiles_freeIndex (s : State) (n : Fin 16) (r : Rect) : (s.claimTiles n r).freeIndex = s.freeIndex := rfl
@[simp] theorem claimTiles_pgood (s : State) (n : Fin 16) (r : Rect) : (s.claimTiles n r).pgood = s.pgood := rfl
@[simp] theorem claimTiles_bus (s : State) (n : Fin 16) (r : Rect) : (s.claimTiles n r).bus = s.bus := rfl
@[simp] theorem claimTiles_config (s : State) (n : Fin 16) (r : Rect) : (s.claimTiles n r).config = s.config := rfl
@[simp] theorem claimTiles_events (s : State) (n : Fin 16) (r : Rect) : (s.claimTiles n r).events = s.events := rfl
@[simp] theorem claimTiles_eventMask (s : State) (n : Fin 16) (r : Rect) : (s.claimTiles n r).eventMask = s.eventMask := rfl
@[simp] theorem claimTiles_image (s : State) (n : Fin 16) (r : Rect) : (s.claimTiles n r).image = s.image := rfl
@[simp] theorem claimTiles_load (s : State) (n : Fin 16) (r : Rect) : (s.claimTiles n r).load = s.load := rfl
@[simp] theorem claimTiles_store (s : State) (n : Fin 16) (r : Rect) : (s.claimTiles n r).store = s.store := rfl
@[simp] theorem claimTiles_queue (s : State) (n : Fin 16) (r : Rect) : (s.claimTiles n r).queue = s.queue := rfl
@[simp] theorem claimTiles_dispatcher (s : State) (n : Fin 16) (r : Rect) : (s.claimTiles n r).dispatcher = s.dispatcher := rfl
@[simp] theorem claimTiles_slots (s : State) (n : Fin 16) (r : Rect) : (s.claimTiles n r).slots = s.slots := rfl
@[simp] theorem claimTiles_jobs (s : State) (n : Fin 16) (r : Rect) : (s.claimTiles n r).jobs = s.jobs := rfl
@[simp] theorem claimTiles_plan (s : State) (n : Fin 16) (r : Rect) : (s.claimTiles n r).plan = s.plan := rfl
@[simp] theorem claimTiles_frame (s : State) (n : Fin 16) (r : Rect) : (s.claimTiles n r).frame = s.frame := rfl
@[simp] theorem claimTiles_scan (s : State) (n : Fin 16) (r : Rect) : (s.claimTiles n r).scan = s.scan := rfl
@[simp] theorem claimTiles_power (s : State) (n : Fin 16) (r : Rect) : (s.claimTiles n r).power = s.power := rfl
@[simp] theorem claimTiles_temp (s : State) (n : Fin 16) (r : Rect) : (s.claimTiles n r).temp = s.temp := rfl
@[simp] theorem claimTiles_completions (s : State) (n : Fin 16) (r : Rect) : (s.claimTiles n r).completions = s.completions := rfl
@[simp] theorem claimTiles_posters (s : State) (n : Fin 16) (r : Rect) : (s.claimTiles n r).posters = s.posters := rfl

@[simp] theorem releaseTiles_pending (s : State) (n : Fin 16) : (s.releaseTiles n).pending = s.pending := rfl
@[simp] theorem releaseTiles_phase (s : State) (n : Fin 16) : (s.releaseTiles n).phase = s.phase := rfl
@[simp] theorem releaseTiles_freeIndex (s : State) (n : Fin 16) : (s.releaseTiles n).freeIndex = s.freeIndex := rfl
@[simp] theorem releaseTiles_pgood (s : State) (n : Fin 16) : (s.releaseTiles n).pgood = s.pgood := rfl
@[simp] theorem releaseTiles_bus (s : State) (n : Fin 16) : (s.releaseTiles n).bus = s.bus := rfl
@[simp] theorem releaseTiles_config (s : State) (n : Fin 16) : (s.releaseTiles n).config = s.config := rfl
@[simp] theorem releaseTiles_events (s : State) (n : Fin 16) : (s.releaseTiles n).events = s.events := rfl
@[simp] theorem releaseTiles_eventMask (s : State) (n : Fin 16) : (s.releaseTiles n).eventMask = s.eventMask := rfl
@[simp] theorem releaseTiles_image (s : State) (n : Fin 16) : (s.releaseTiles n).image = s.image := rfl
@[simp] theorem releaseTiles_load (s : State) (n : Fin 16) : (s.releaseTiles n).load = s.load := rfl
@[simp] theorem releaseTiles_store (s : State) (n : Fin 16) : (s.releaseTiles n).store = s.store := rfl
@[simp] theorem releaseTiles_queue (s : State) (n : Fin 16) : (s.releaseTiles n).queue = s.queue := rfl
@[simp] theorem releaseTiles_dispatcher (s : State) (n : Fin 16) : (s.releaseTiles n).dispatcher = s.dispatcher := rfl
@[simp] theorem releaseTiles_slots (s : State) (n : Fin 16) : (s.releaseTiles n).slots = s.slots := rfl
@[simp] theorem releaseTiles_jobs (s : State) (n : Fin 16) : (s.releaseTiles n).jobs = s.jobs := rfl
@[simp] theorem releaseTiles_plan (s : State) (n : Fin 16) : (s.releaseTiles n).plan = s.plan := rfl
@[simp] theorem releaseTiles_frame (s : State) (n : Fin 16) : (s.releaseTiles n).frame = s.frame := rfl
@[simp] theorem releaseTiles_scan (s : State) (n : Fin 16) : (s.releaseTiles n).scan = s.scan := rfl
@[simp] theorem releaseTiles_power (s : State) (n : Fin 16) : (s.releaseTiles n).power = s.power := rfl
@[simp] theorem releaseTiles_temp (s : State) (n : Fin 16) : (s.releaseTiles n).temp = s.temp := rfl
@[simp] theorem releaseTiles_completions (s : State) (n : Fin 16) : (s.releaseTiles n).completions = s.completions := rfl
@[simp] theorem releaseTiles_posters (s : State) (n : Fin 16) : (s.releaseTiles n).posters = s.posters := rfl

@[simp] theorem setSlot_pending (s : State) (n : Fin 16) (sl : Slot) : (s.setSlot n sl).pending = s.pending := rfl
@[simp] theorem setSlot_phase (s : State) (n : Fin 16) (sl : Slot) : (s.setSlot n sl).phase = s.phase := rfl
@[simp] theorem setSlot_freeIndex (s : State) (n : Fin 16) (sl : Slot) : (s.setSlot n sl).freeIndex = s.freeIndex := rfl
@[simp] theorem setSlot_pgood (s : State) (n : Fin 16) (sl : Slot) : (s.setSlot n sl).pgood = s.pgood := rfl
@[simp] theorem setSlot_bus (s : State) (n : Fin 16) (sl : Slot) : (s.setSlot n sl).bus = s.bus := rfl
@[simp] theorem setSlot_config (s : State) (n : Fin 16) (sl : Slot) : (s.setSlot n sl).config = s.config := rfl
@[simp] theorem setSlot_events (s : State) (n : Fin 16) (sl : Slot) : (s.setSlot n sl).events = s.events := rfl
@[simp] theorem setSlot_eventMask (s : State) (n : Fin 16) (sl : Slot) : (s.setSlot n sl).eventMask = s.eventMask := rfl
@[simp] theorem setSlot_image (s : State) (n : Fin 16) (sl : Slot) : (s.setSlot n sl).image = s.image := rfl
@[simp] theorem setSlot_load (s : State) (n : Fin 16) (sl : Slot) : (s.setSlot n sl).load = s.load := rfl
@[simp] theorem setSlot_store (s : State) (n : Fin 16) (sl : Slot) : (s.setSlot n sl).store = s.store := rfl
@[simp] theorem setSlot_queue (s : State) (n : Fin 16) (sl : Slot) : (s.setSlot n sl).queue = s.queue := rfl
@[simp] theorem setSlot_dispatcher (s : State) (n : Fin 16) (sl : Slot) : (s.setSlot n sl).dispatcher = s.dispatcher := rfl
@[simp] theorem setSlot_tiles (s : State) (n : Fin 16) (sl : Slot) : (s.setSlot n sl).tiles = s.tiles := rfl
@[simp] theorem setSlot_jobs (s : State) (n : Fin 16) (sl : Slot) : (s.setSlot n sl).jobs = s.jobs := rfl
@[simp] theorem setSlot_plan (s : State) (n : Fin 16) (sl : Slot) : (s.setSlot n sl).plan = s.plan := rfl
@[simp] theorem setSlot_frame (s : State) (n : Fin 16) (sl : Slot) : (s.setSlot n sl).frame = s.frame := rfl
@[simp] theorem setSlot_scan (s : State) (n : Fin 16) (sl : Slot) : (s.setSlot n sl).scan = s.scan := rfl
@[simp] theorem setSlot_power (s : State) (n : Fin 16) (sl : Slot) : (s.setSlot n sl).power = s.power := rfl
@[simp] theorem setSlot_temp (s : State) (n : Fin 16) (sl : Slot) : (s.setSlot n sl).temp = s.temp := rfl
@[simp] theorem setSlot_completions (s : State) (n : Fin 16) (sl : Slot) : (s.setSlot n sl).completions = s.completions := rfl
@[simp] theorem setSlot_posters (s : State) (n : Fin 16) (sl : Slot) : (s.setSlot n sl).posters = s.posters := rfl

@[simp] theorem setMode_pending (s : State) (m : Fin 8) (d : Descriptor) : (s.setMode m d).pending = s.pending := rfl
@[simp] theorem setMode_phase (s : State) (m : Fin 8) (d : Descriptor) : (s.setMode m d).phase = s.phase := rfl
@[simp] theorem setMode_freeIndex (s : State) (m : Fin 8) (d : Descriptor) : (s.setMode m d).freeIndex = s.freeIndex := rfl
@[simp] theorem setMode_pgood (s : State) (m : Fin 8) (d : Descriptor) : (s.setMode m d).pgood = s.pgood := rfl
@[simp] theorem setMode_bus (s : State) (m : Fin 8) (d : Descriptor) : (s.setMode m d).bus = s.bus := rfl
@[simp] theorem setMode_config (s : State) (m : Fin 8) (d : Descriptor) : (s.setMode m d).config = s.config := rfl
@[simp] theorem setMode_events (s : State) (m : Fin 8) (d : Descriptor) : (s.setMode m d).events = s.events := rfl
@[simp] theorem setMode_eventMask (s : State) (m : Fin 8) (d : Descriptor) : (s.setMode m d).eventMask = s.eventMask := rfl
@[simp] theorem setMode_image (s : State) (m : Fin 8) (d : Descriptor) : (s.setMode m d).image = s.image := rfl
@[simp] theorem setMode_load (s : State) (m : Fin 8) (d : Descriptor) : (s.setMode m d).load = s.load := rfl
@[simp] theorem setMode_queue (s : State) (m : Fin 8) (d : Descriptor) : (s.setMode m d).queue = s.queue := rfl
@[simp] theorem setMode_dispatcher (s : State) (m : Fin 8) (d : Descriptor) : (s.setMode m d).dispatcher = s.dispatcher := rfl
@[simp] theorem setMode_slots (s : State) (m : Fin 8) (d : Descriptor) : (s.setMode m d).slots = s.slots := rfl
@[simp] theorem setMode_tiles (s : State) (m : Fin 8) (d : Descriptor) : (s.setMode m d).tiles = s.tiles := rfl
@[simp] theorem setMode_jobs (s : State) (m : Fin 8) (d : Descriptor) : (s.setMode m d).jobs = s.jobs := rfl
@[simp] theorem setMode_plan (s : State) (m : Fin 8) (d : Descriptor) : (s.setMode m d).plan = s.plan := rfl
@[simp] theorem setMode_frame (s : State) (m : Fin 8) (d : Descriptor) : (s.setMode m d).frame = s.frame := rfl
@[simp] theorem setMode_scan (s : State) (m : Fin 8) (d : Descriptor) : (s.setMode m d).scan = s.scan := rfl
@[simp] theorem setMode_power (s : State) (m : Fin 8) (d : Descriptor) : (s.setMode m d).power = s.power := rfl
@[simp] theorem setMode_temp (s : State) (m : Fin 8) (d : Descriptor) : (s.setMode m d).temp = s.temp := rfl
@[simp] theorem setMode_completions (s : State) (m : Fin 8) (d : Descriptor) : (s.setMode m d).completions = s.completions := rfl
@[simp] theorem setMode_posters (s : State) (m : Fin 8) (d : Descriptor) : (s.setMode m d).posters = s.posters := rfl

@[simp] theorem markDue_pending (s : State) (d : Bool) : (s.markDue d).pending = s.pending := rfl
@[simp] theorem markDue_phase (s : State) (d : Bool) : (s.markDue d).phase = s.phase := rfl
@[simp] theorem markDue_freeIndex (s : State) (d : Bool) : (s.markDue d).freeIndex = s.freeIndex := rfl
@[simp] theorem markDue_pgood (s : State) (d : Bool) : (s.markDue d).pgood = s.pgood := rfl
@[simp] theorem markDue_bus (s : State) (d : Bool) : (s.markDue d).bus = s.bus := rfl
@[simp] theorem markDue_config (s : State) (d : Bool) : (s.markDue d).config = s.config := rfl
@[simp] theorem markDue_events (s : State) (d : Bool) : (s.markDue d).events = s.events := rfl
@[simp] theorem markDue_eventMask (s : State) (d : Bool) : (s.markDue d).eventMask = s.eventMask := rfl
@[simp] theorem markDue_image (s : State) (d : Bool) : (s.markDue d).image = s.image := rfl
@[simp] theorem markDue_load (s : State) (d : Bool) : (s.markDue d).load = s.load := rfl
@[simp] theorem markDue_store (s : State) (d : Bool) : (s.markDue d).store = s.store := rfl
@[simp] theorem markDue_dispatcher (s : State) (d : Bool) : (s.markDue d).dispatcher = s.dispatcher := rfl
@[simp] theorem markDue_slots (s : State) (d : Bool) : (s.markDue d).slots = s.slots := rfl
@[simp] theorem markDue_tiles (s : State) (d : Bool) : (s.markDue d).tiles = s.tiles := rfl
@[simp] theorem markDue_jobs (s : State) (d : Bool) : (s.markDue d).jobs = s.jobs := rfl
@[simp] theorem markDue_plan (s : State) (d : Bool) : (s.markDue d).plan = s.plan := rfl
@[simp] theorem markDue_frame (s : State) (d : Bool) : (s.markDue d).frame = s.frame := rfl
@[simp] theorem markDue_scan (s : State) (d : Bool) : (s.markDue d).scan = s.scan := rfl
@[simp] theorem markDue_power (s : State) (d : Bool) : (s.markDue d).power = s.power := rfl
@[simp] theorem markDue_temp (s : State) (d : Bool) : (s.markDue d).temp = s.temp := rfl
@[simp] theorem markDue_completions (s : State) (d : Bool) : (s.markDue d).completions = s.completions := rfl
@[simp] theorem markDue_posters (s : State) (d : Bool) : (s.markDue d).posters = s.posters := rfl

@[simp] theorem setEntryState_pending (s : State) (i : Nat) (st : EntryState) : (s.setEntryState i st).pending = s.pending := rfl
@[simp] theorem setEntryState_phase (s : State) (i : Nat) (st : EntryState) : (s.setEntryState i st).phase = s.phase := rfl
@[simp] theorem setEntryState_freeIndex (s : State) (i : Nat) (st : EntryState) : (s.setEntryState i st).freeIndex = s.freeIndex := rfl
@[simp] theorem setEntryState_pgood (s : State) (i : Nat) (st : EntryState) : (s.setEntryState i st).pgood = s.pgood := rfl
@[simp] theorem setEntryState_bus (s : State) (i : Nat) (st : EntryState) : (s.setEntryState i st).bus = s.bus := rfl
@[simp] theorem setEntryState_config (s : State) (i : Nat) (st : EntryState) : (s.setEntryState i st).config = s.config := rfl
@[simp] theorem setEntryState_events (s : State) (i : Nat) (st : EntryState) : (s.setEntryState i st).events = s.events := rfl
@[simp] theorem setEntryState_eventMask (s : State) (i : Nat) (st : EntryState) : (s.setEntryState i st).eventMask = s.eventMask := rfl
@[simp] theorem setEntryState_image (s : State) (i : Nat) (st : EntryState) : (s.setEntryState i st).image = s.image := rfl
@[simp] theorem setEntryState_load (s : State) (i : Nat) (st : EntryState) : (s.setEntryState i st).load = s.load := rfl
@[simp] theorem setEntryState_store (s : State) (i : Nat) (st : EntryState) : (s.setEntryState i st).store = s.store := rfl
@[simp] theorem setEntryState_dispatcher (s : State) (i : Nat) (st : EntryState) : (s.setEntryState i st).dispatcher = s.dispatcher := rfl
@[simp] theorem setEntryState_slots (s : State) (i : Nat) (st : EntryState) : (s.setEntryState i st).slots = s.slots := rfl
@[simp] theorem setEntryState_tiles (s : State) (i : Nat) (st : EntryState) : (s.setEntryState i st).tiles = s.tiles := rfl
@[simp] theorem setEntryState_jobs (s : State) (i : Nat) (st : EntryState) : (s.setEntryState i st).jobs = s.jobs := rfl
@[simp] theorem setEntryState_plan (s : State) (i : Nat) (st : EntryState) : (s.setEntryState i st).plan = s.plan := rfl
@[simp] theorem setEntryState_frame (s : State) (i : Nat) (st : EntryState) : (s.setEntryState i st).frame = s.frame := rfl
@[simp] theorem setEntryState_scan (s : State) (i : Nat) (st : EntryState) : (s.setEntryState i st).scan = s.scan := rfl
@[simp] theorem setEntryState_power (s : State) (i : Nat) (st : EntryState) : (s.setEntryState i st).power = s.power := rfl
@[simp] theorem setEntryState_temp (s : State) (i : Nat) (st : EntryState) : (s.setEntryState i st).temp = s.temp := rfl
@[simp] theorem setEntryState_completions (s : State) (i : Nat) (st : EntryState) : (s.setEntryState i st).completions = s.completions := rfl
@[simp] theorem setEntryState_posters (s : State) (i : Nat) (st : EntryState) : (s.setEntryState i st).posters = s.posters := rfl

@[simp] theorem clearAfterTags_pending (s : State) (t : Tag) : (s.clearAfterTags t).pending = s.pending := rfl
@[simp] theorem clearAfterTags_phase (s : State) (t : Tag) : (s.clearAfterTags t).phase = s.phase := rfl
@[simp] theorem clearAfterTags_freeIndex (s : State) (t : Tag) : (s.clearAfterTags t).freeIndex = s.freeIndex := rfl
@[simp] theorem clearAfterTags_pgood (s : State) (t : Tag) : (s.clearAfterTags t).pgood = s.pgood := rfl
@[simp] theorem clearAfterTags_bus (s : State) (t : Tag) : (s.clearAfterTags t).bus = s.bus := rfl
@[simp] theorem clearAfterTags_config (s : State) (t : Tag) : (s.clearAfterTags t).config = s.config := rfl
@[simp] theorem clearAfterTags_events (s : State) (t : Tag) : (s.clearAfterTags t).events = s.events := rfl
@[simp] theorem clearAfterTags_eventMask (s : State) (t : Tag) : (s.clearAfterTags t).eventMask = s.eventMask := rfl
@[simp] theorem clearAfterTags_image (s : State) (t : Tag) : (s.clearAfterTags t).image = s.image := rfl
@[simp] theorem clearAfterTags_load (s : State) (t : Tag) : (s.clearAfterTags t).load = s.load := rfl
@[simp] theorem clearAfterTags_store (s : State) (t : Tag) : (s.clearAfterTags t).store = s.store := rfl
@[simp] theorem clearAfterTags_dispatcher (s : State) (t : Tag) : (s.clearAfterTags t).dispatcher = s.dispatcher := rfl
@[simp] theorem clearAfterTags_slots (s : State) (t : Tag) : (s.clearAfterTags t).slots = s.slots := rfl
@[simp] theorem clearAfterTags_tiles (s : State) (t : Tag) : (s.clearAfterTags t).tiles = s.tiles := rfl
@[simp] theorem clearAfterTags_jobs (s : State) (t : Tag) : (s.clearAfterTags t).jobs = s.jobs := rfl
@[simp] theorem clearAfterTags_plan (s : State) (t : Tag) : (s.clearAfterTags t).plan = s.plan := rfl
@[simp] theorem clearAfterTags_frame (s : State) (t : Tag) : (s.clearAfterTags t).frame = s.frame := rfl
@[simp] theorem clearAfterTags_scan (s : State) (t : Tag) : (s.clearAfterTags t).scan = s.scan := rfl
@[simp] theorem clearAfterTags_power (s : State) (t : Tag) : (s.clearAfterTags t).power = s.power := rfl
@[simp] theorem clearAfterTags_temp (s : State) (t : Tag) : (s.clearAfterTags t).temp = s.temp := rfl
@[simp] theorem clearAfterTags_completions (s : State) (t : Tag) : (s.clearAfterTags t).completions = s.completions := rfl
@[simp] theorem clearAfterTags_posters (s : State) (t : Tag) : (s.clearAfterTags t).posters = s.posters := rfl

@[simp] theorem abandonSnapshot_pending (s : State) (n : Fin 16) : (s.abandonSnapshot n).pending = s.pending := rfl
@[simp] theorem abandonSnapshot_phase (s : State) (n : Fin 16) : (s.abandonSnapshot n).phase = s.phase := rfl
@[simp] theorem abandonSnapshot_freeIndex (s : State) (n : Fin 16) : (s.abandonSnapshot n).freeIndex = s.freeIndex := rfl
@[simp] theorem abandonSnapshot_pgood (s : State) (n : Fin 16) : (s.abandonSnapshot n).pgood = s.pgood := rfl
@[simp] theorem abandonSnapshot_bus (s : State) (n : Fin 16) : (s.abandonSnapshot n).bus = s.bus := rfl
@[simp] theorem abandonSnapshot_config (s : State) (n : Fin 16) : (s.abandonSnapshot n).config = s.config := rfl
@[simp] theorem abandonSnapshot_events (s : State) (n : Fin 16) : (s.abandonSnapshot n).events = s.events := rfl
@[simp] theorem abandonSnapshot_eventMask (s : State) (n : Fin 16) : (s.abandonSnapshot n).eventMask = s.eventMask := rfl
@[simp] theorem abandonSnapshot_image (s : State) (n : Fin 16) : (s.abandonSnapshot n).image = s.image := rfl
@[simp] theorem abandonSnapshot_load (s : State) (n : Fin 16) : (s.abandonSnapshot n).load = s.load := rfl
@[simp] theorem abandonSnapshot_store (s : State) (n : Fin 16) : (s.abandonSnapshot n).store = s.store := rfl
@[simp] theorem abandonSnapshot_queue (s : State) (n : Fin 16) : (s.abandonSnapshot n).queue = s.queue := rfl
@[simp] theorem abandonSnapshot_dispatcher (s : State) (n : Fin 16) : (s.abandonSnapshot n).dispatcher = s.dispatcher := rfl
@[simp] theorem abandonSnapshot_slots (s : State) (n : Fin 16) : (s.abandonSnapshot n).slots = s.slots := rfl
@[simp] theorem abandonSnapshot_tiles (s : State) (n : Fin 16) : (s.abandonSnapshot n).tiles = s.tiles := rfl
@[simp] theorem abandonSnapshot_plan (s : State) (n : Fin 16) : (s.abandonSnapshot n).plan = s.plan := rfl
@[simp] theorem abandonSnapshot_frame (s : State) (n : Fin 16) : (s.abandonSnapshot n).frame = s.frame := rfl
@[simp] theorem abandonSnapshot_scan (s : State) (n : Fin 16) : (s.abandonSnapshot n).scan = s.scan := rfl
@[simp] theorem abandonSnapshot_power (s : State) (n : Fin 16) : (s.abandonSnapshot n).power = s.power := rfl
@[simp] theorem abandonSnapshot_temp (s : State) (n : Fin 16) : (s.abandonSnapshot n).temp = s.temp := rfl
@[simp] theorem abandonSnapshot_completions (s : State) (n : Fin 16) : (s.abandonSnapshot n).completions = s.completions := rfl
@[simp] theorem abandonSnapshot_posters (s : State) (n : Fin 16) : (s.abandonSnapshot n).posters = s.posters := rfl

@[simp] theorem leavePlan_pending (s : State) (n : Fin 16) : (s.leavePlan n).pending = s.pending := rfl
@[simp] theorem leavePlan_phase (s : State) (n : Fin 16) : (s.leavePlan n).phase = s.phase := rfl
@[simp] theorem leavePlan_freeIndex (s : State) (n : Fin 16) : (s.leavePlan n).freeIndex = s.freeIndex := rfl
@[simp] theorem leavePlan_pgood (s : State) (n : Fin 16) : (s.leavePlan n).pgood = s.pgood := rfl
@[simp] theorem leavePlan_bus (s : State) (n : Fin 16) : (s.leavePlan n).bus = s.bus := rfl
@[simp] theorem leavePlan_config (s : State) (n : Fin 16) : (s.leavePlan n).config = s.config := rfl
@[simp] theorem leavePlan_events (s : State) (n : Fin 16) : (s.leavePlan n).events = s.events := rfl
@[simp] theorem leavePlan_eventMask (s : State) (n : Fin 16) : (s.leavePlan n).eventMask = s.eventMask := rfl
@[simp] theorem leavePlan_image (s : State) (n : Fin 16) : (s.leavePlan n).image = s.image := rfl
@[simp] theorem leavePlan_load (s : State) (n : Fin 16) : (s.leavePlan n).load = s.load := rfl
@[simp] theorem leavePlan_store (s : State) (n : Fin 16) : (s.leavePlan n).store = s.store := rfl
@[simp] theorem leavePlan_queue (s : State) (n : Fin 16) : (s.leavePlan n).queue = s.queue := rfl
@[simp] theorem leavePlan_dispatcher (s : State) (n : Fin 16) : (s.leavePlan n).dispatcher = s.dispatcher := rfl
@[simp] theorem leavePlan_slots (s : State) (n : Fin 16) : (s.leavePlan n).slots = s.slots := rfl
@[simp] theorem leavePlan_tiles (s : State) (n : Fin 16) : (s.leavePlan n).tiles = s.tiles := rfl
@[simp] theorem leavePlan_jobs (s : State) (n : Fin 16) : (s.leavePlan n).jobs = s.jobs := rfl
@[simp] theorem leavePlan_frame (s : State) (n : Fin 16) : (s.leavePlan n).frame = s.frame := rfl
@[simp] theorem leavePlan_scan (s : State) (n : Fin 16) : (s.leavePlan n).scan = s.scan := rfl
@[simp] theorem leavePlan_power (s : State) (n : Fin 16) : (s.leavePlan n).power = s.power := rfl
@[simp] theorem leavePlan_temp (s : State) (n : Fin 16) : (s.leavePlan n).temp = s.temp := rfl
@[simp] theorem leavePlan_completions (s : State) (n : Fin 16) : (s.leavePlan n).completions = s.completions := rfl
@[simp] theorem leavePlan_posters (s : State) (n : Fin 16) : (s.leavePlan n).posters = s.posters := rfl

@[simp] theorem enterDischarging_pending (s : State) : (s.enterDischarging).pending = s.pending := rfl
@[simp] theorem enterDischarging_phase (s : State) : (s.enterDischarging).phase = s.phase := rfl
@[simp] theorem enterDischarging_freeIndex (s : State) : (s.enterDischarging).freeIndex = s.freeIndex := rfl
@[simp] theorem enterDischarging_pgood (s : State) : (s.enterDischarging).pgood = s.pgood := rfl
@[simp] theorem enterDischarging_bus (s : State) : (s.enterDischarging).bus = s.bus := rfl
@[simp] theorem enterDischarging_config (s : State) : (s.enterDischarging).config = s.config := rfl
@[simp] theorem enterDischarging_events (s : State) : (s.enterDischarging).events = s.events := rfl
@[simp] theorem enterDischarging_eventMask (s : State) : (s.enterDischarging).eventMask = s.eventMask := rfl
@[simp] theorem enterDischarging_image (s : State) : (s.enterDischarging).image = s.image := rfl
@[simp] theorem enterDischarging_load (s : State) : (s.enterDischarging).load = s.load := rfl
@[simp] theorem enterDischarging_store (s : State) : (s.enterDischarging).store = s.store := rfl
@[simp] theorem enterDischarging_queue (s : State) : (s.enterDischarging).queue = s.queue := rfl
@[simp] theorem enterDischarging_dispatcher (s : State) : (s.enterDischarging).dispatcher = s.dispatcher := rfl
@[simp] theorem enterDischarging_slots (s : State) : (s.enterDischarging).slots = s.slots := rfl
@[simp] theorem enterDischarging_tiles (s : State) : (s.enterDischarging).tiles = s.tiles := rfl
@[simp] theorem enterDischarging_jobs (s : State) : (s.enterDischarging).jobs = s.jobs := rfl
@[simp] theorem enterDischarging_plan (s : State) : (s.enterDischarging).plan = s.plan := rfl
@[simp] theorem enterDischarging_frame (s : State) : (s.enterDischarging).frame = s.frame := rfl
@[simp] theorem enterDischarging_scan (s : State) : (s.enterDischarging).scan = s.scan := rfl
@[simp] theorem enterDischarging_temp (s : State) : (s.enterDischarging).temp = s.temp := rfl
@[simp] theorem enterDischarging_completions (s : State) : (s.enterDischarging).completions = s.completions := rfl
@[simp] theorem enterDischarging_posters (s : State) : (s.enterDischarging).posters = s.posters := rfl

@[simp] theorem enterFalling_pending (s : State) : (s.enterFalling).pending = s.pending := rfl
@[simp] theorem enterFalling_phase (s : State) : (s.enterFalling).phase = s.phase := rfl
@[simp] theorem enterFalling_freeIndex (s : State) : (s.enterFalling).freeIndex = s.freeIndex := rfl
@[simp] theorem enterFalling_pgood (s : State) : (s.enterFalling).pgood = s.pgood := rfl
@[simp] theorem enterFalling_bus (s : State) : (s.enterFalling).bus = s.bus := rfl
@[simp] theorem enterFalling_config (s : State) : (s.enterFalling).config = s.config := rfl
@[simp] theorem enterFalling_events (s : State) : (s.enterFalling).events = s.events := rfl
@[simp] theorem enterFalling_eventMask (s : State) : (s.enterFalling).eventMask = s.eventMask := rfl
@[simp] theorem enterFalling_image (s : State) : (s.enterFalling).image = s.image := rfl
@[simp] theorem enterFalling_load (s : State) : (s.enterFalling).load = s.load := rfl
@[simp] theorem enterFalling_store (s : State) : (s.enterFalling).store = s.store := rfl
@[simp] theorem enterFalling_queue (s : State) : (s.enterFalling).queue = s.queue := rfl
@[simp] theorem enterFalling_dispatcher (s : State) : (s.enterFalling).dispatcher = s.dispatcher := rfl
@[simp] theorem enterFalling_slots (s : State) : (s.enterFalling).slots = s.slots := rfl
@[simp] theorem enterFalling_tiles (s : State) : (s.enterFalling).tiles = s.tiles := rfl
@[simp] theorem enterFalling_jobs (s : State) : (s.enterFalling).jobs = s.jobs := rfl
@[simp] theorem enterFalling_plan (s : State) : (s.enterFalling).plan = s.plan := rfl
@[simp] theorem enterFalling_frame (s : State) : (s.enterFalling).frame = s.frame := rfl
@[simp] theorem enterFalling_scan (s : State) : (s.enterFalling).scan = s.scan := rfl
@[simp] theorem enterFalling_temp (s : State) : (s.enterFalling).temp = s.temp := rfl
@[simp] theorem enterFalling_completions (s : State) : (s.enterFalling).completions = s.completions := rfl
@[simp] theorem enterFalling_posters (s : State) : (s.enterFalling).posters = s.posters := rfl

@[simp] theorem enterFault_pending (s : State) (r : FaultReason) (b : Bool) : (s.enterFault r b).pending = s.pending := rfl
@[simp] theorem enterFault_phase (s : State) (r : FaultReason) (b : Bool) : (s.enterFault r b).phase = s.phase := rfl
@[simp] theorem enterFault_freeIndex (s : State) (r : FaultReason) (b : Bool) : (s.enterFault r b).freeIndex = s.freeIndex := rfl
@[simp] theorem enterFault_pgood (s : State) (r : FaultReason) (b : Bool) : (s.enterFault r b).pgood = s.pgood := rfl
@[simp] theorem enterFault_bus (s : State) (r : FaultReason) (b : Bool) : (s.enterFault r b).bus = s.bus := rfl
@[simp] theorem enterFault_config (s : State) (r : FaultReason) (b : Bool) : (s.enterFault r b).config = s.config := rfl
@[simp] theorem enterFault_eventMask (s : State) (r : FaultReason) (b : Bool) : (s.enterFault r b).eventMask = s.eventMask := rfl
@[simp] theorem enterFault_image (s : State) (r : FaultReason) (b : Bool) : (s.enterFault r b).image = s.image := rfl
@[simp] theorem enterFault_load (s : State) (r : FaultReason) (b : Bool) : (s.enterFault r b).load = s.load := rfl
@[simp] theorem enterFault_store (s : State) (r : FaultReason) (b : Bool) : (s.enterFault r b).store = s.store := rfl
@[simp] theorem enterFault_queue (s : State) (r : FaultReason) (b : Bool) : (s.enterFault r b).queue = s.queue := rfl
@[simp] theorem enterFault_dispatcher (s : State) (r : FaultReason) (b : Bool) : (s.enterFault r b).dispatcher = s.dispatcher := rfl
@[simp] theorem enterFault_slots (s : State) (r : FaultReason) (b : Bool) : (s.enterFault r b).slots = s.slots := rfl
@[simp] theorem enterFault_tiles (s : State) (r : FaultReason) (b : Bool) : (s.enterFault r b).tiles = s.tiles := rfl
@[simp] theorem enterFault_jobs (s : State) (r : FaultReason) (b : Bool) : (s.enterFault r b).jobs = s.jobs := rfl
@[simp] theorem enterFault_plan (s : State) (r : FaultReason) (b : Bool) : (s.enterFault r b).plan = s.plan := rfl
@[simp] theorem enterFault_frame (s : State) (r : FaultReason) (b : Bool) : (s.enterFault r b).frame = s.frame := rfl
@[simp] theorem enterFault_scan (s : State) (r : FaultReason) (b : Bool) : (s.enterFault r b).scan = s.scan := rfl
@[simp] theorem enterFault_temp (s : State) (r : FaultReason) (b : Bool) : (s.enterFault r b).temp = s.temp := rfl
@[simp] theorem enterFault_completions (s : State) (r : FaultReason) (b : Bool) : (s.enterFault r b).completions = s.completions := rfl
@[simp] theorem enterFault_posters (s : State) (r : FaultReason) (b : Bool) : (s.enterFault r b).posters = s.posters := rfl

end Sys2Proof.Machine
end

