-- ==== Sys2Proof/Laws/Unchanged.lean ====
section
/-! SUPPORT. For each shared operation and each command's effect, what it leaves unchanged: one lemma each, every
conjunct a rewrite rule, so that no later proof unfolds the operation to learn it. -/

namespace Sys2Proof.Machine

set_option linter.unusedTactic false
set_option linter.unnecessarySeqFocus false

@[simp] theorem startPass_frame (s : State) :
    (s.startPass).pending = s.pending ∧ (s.startPass).phase = s.phase ∧ (s.startPass).freeIndex = s.freeIndex ∧
    (s.startPass).pgood = s.pgood ∧ (s.startPass).bus = s.bus ∧ (s.startPass).config = s.config ∧
    (s.startPass).events = s.events ∧ (s.startPass).eventMask = s.eventMask ∧ (s.startPass).image = s.image ∧
    (s.startPass).load = s.load ∧ (s.startPass).store = s.store ∧ (s.startPass).slots = s.slots ∧
    (s.startPass).tiles = s.tiles ∧ (s.startPass).jobs = s.jobs ∧ (s.startPass).plan = s.plan ∧
    (s.startPass).frame = s.frame ∧ (s.startPass).scan = s.scan ∧ (s.startPass).power = s.power ∧
    (s.startPass).temp = s.temp ∧ (s.startPass).completions = s.completions ∧ (s.startPass).posters = s.posters := by
  unfold State.startPass; (try dsimp only); (repeat' split) <;> simp

@[simp] theorem endPassIfDone_frame (s : State) :
    (s.endPassIfDone).pending = s.pending ∧ (s.endPassIfDone).phase = s.phase ∧
    (s.endPassIfDone).freeIndex = s.freeIndex ∧ (s.endPassIfDone).pgood = s.pgood ∧
    (s.endPassIfDone).bus = s.bus ∧ (s.endPassIfDone).config = s.config ∧ (s.endPassIfDone).events = s.events ∧
    (s.endPassIfDone).eventMask = s.eventMask ∧ (s.endPassIfDone).image = s.image ∧
    (s.endPassIfDone).load = s.load ∧ (s.endPassIfDone).store = s.store ∧ (s.endPassIfDone).slots = s.slots ∧
    (s.endPassIfDone).tiles = s.tiles ∧ (s.endPassIfDone).jobs = s.jobs ∧ (s.endPassIfDone).plan = s.plan ∧
    (s.endPassIfDone).frame = s.frame ∧ (s.endPassIfDone).scan = s.scan ∧ (s.endPassIfDone).power = s.power ∧
    (s.endPassIfDone).temp = s.temp ∧ (s.endPassIfDone).completions = s.completions ∧
    (s.endPassIfDone).posters = s.posters := by
  unfold State.endPassIfDone; (try dsimp only); (repeat' split) <;> simp

@[simp] theorem writePixels_frame (s : State) (p : Plane) (y : Nat) (c : List (Nat × Level)) :
    (s.writePixels p y c).pending = s.pending ∧ (s.writePixels p y c).phase = s.phase ∧
    (s.writePixels p y c).freeIndex = s.freeIndex ∧ (s.writePixels p y c).pgood = s.pgood ∧
    (s.writePixels p y c).bus = s.bus ∧ (s.writePixels p y c).config = s.config ∧
    (s.writePixels p y c).events = s.events ∧ (s.writePixels p y c).eventMask = s.eventMask ∧
    (s.writePixels p y c).load = s.load ∧ (s.writePixels p y c).store = s.store ∧
    (s.writePixels p y c).queue = s.queue ∧ (s.writePixels p y c).dispatcher = s.dispatcher ∧
    (s.writePixels p y c).slots = s.slots ∧ (s.writePixels p y c).tiles = s.tiles ∧
    (s.writePixels p y c).jobs = s.jobs ∧ (s.writePixels p y c).plan = s.plan ∧
    (s.writePixels p y c).frame = s.frame ∧ (s.writePixels p y c).scan = s.scan ∧
    (s.writePixels p y c).power = s.power ∧ (s.writePixels p y c).temp = s.temp ∧
    (s.writePixels p y c).completions = s.completions ∧ (s.writePixels p y c).posters = s.posters := by
  induction c generalizing s with
  | nil => simp [State.writePixels]
  | cons a t ih => simp [State.writePixels, ih]

@[simp] theorem writeTarget_frame (s : State) (c : List ((Nat × Nat) × Level)) :
    (s.writeTarget c).pending = s.pending ∧ (s.writeTarget c).phase = s.phase ∧
    (s.writeTarget c).freeIndex = s.freeIndex ∧ (s.writeTarget c).pgood = s.pgood ∧
    (s.writeTarget c).bus = s.bus ∧ (s.writeTarget c).config = s.config ∧ (s.writeTarget c).events = s.events ∧
    (s.writeTarget c).eventMask = s.eventMask ∧ (s.writeTarget c).load = s.load ∧
    (s.writeTarget c).store = s.store ∧ (s.writeTarget c).queue = s.queue ∧
    (s.writeTarget c).dispatcher = s.dispatcher ∧ (s.writeTarget c).slots = s.slots ∧
    (s.writeTarget c).tiles = s.tiles ∧ (s.writeTarget c).jobs = s.jobs ∧ (s.writeTarget c).plan = s.plan ∧
    (s.writeTarget c).frame = s.frame ∧ (s.writeTarget c).scan = s.scan ∧ (s.writeTarget c).power = s.power ∧
    (s.writeTarget c).temp = s.temp ∧ (s.writeTarget c).completions = s.completions ∧
    (s.writeTarget c).posters = s.posters := by
  induction c generalizing s with
  | nil => simp [State.writeTarget]
  | cons a t ih => simp [State.writeTarget, ih]

@[simp] theorem addRecord_frame (s : State) (r : Record) (b : Bool) :
    (s.addRecord r b).pending = s.pending ∧ (s.addRecord r b).phase = s.phase ∧
    (s.addRecord r b).freeIndex = s.freeIndex ∧ (s.addRecord r b).pgood = s.pgood ∧
    (s.addRecord r b).bus = s.bus ∧ (s.addRecord r b).config = s.config ∧
    (s.addRecord r b).eventMask = s.eventMask ∧ (s.addRecord r b).image = s.image ∧
    (s.addRecord r b).load = s.load ∧ (s.addRecord r b).store = s.store ∧
    (s.addRecord r b).dispatcher = s.dispatcher ∧ (s.addRecord r b).slots = s.slots ∧
    (s.addRecord r b).tiles = s.tiles ∧ (s.addRecord r b).jobs = s.jobs ∧ (s.addRecord r b).plan = s.plan ∧
    (s.addRecord r b).frame = s.frame ∧ (s.addRecord r b).scan = s.scan ∧ (s.addRecord r b).power = s.power ∧
    (s.addRecord r b).temp = s.temp ∧ (s.addRecord r b).posters = s.posters := by
  unfold State.addRecord; (try dsimp only); (repeat' split) <;> simp

@[simp] theorem removeEntry_frame (s : State) (i : Nat) :
    (s.removeEntry i).pending = s.pending ∧ (s.removeEntry i).phase = s.phase ∧
    (s.removeEntry i).freeIndex = s.freeIndex ∧ (s.removeEntry i).pgood = s.pgood ∧
    (s.removeEntry i).bus = s.bus ∧ (s.removeEntry i).config = s.config ∧
    (s.removeEntry i).eventMask = s.eventMask ∧ (s.removeEntry i).image = s.image ∧
    (s.removeEntry i).store = s.store ∧ (s.removeEntry i).dispatcher = s.dispatcher ∧
    (s.removeEntry i).slots = s.slots ∧ (s.removeEntry i).tiles = s.tiles ∧ (s.removeEntry i).jobs = s.jobs ∧
    (s.removeEntry i).plan = s.plan ∧ (s.removeEntry i).frame = s.frame ∧ (s.removeEntry i).scan = s.scan ∧
    (s.removeEntry i).power = s.power ∧ (s.removeEntry i).temp = s.temp ∧
    (s.removeEntry i).completions = s.completions ∧ (s.removeEntry i).posters = s.posters := by
  unfold State.removeEntry; (try dsimp only); (repeat' split) <;> simp

@[simp] theorem takeSlotPost_frame (s : State) (n : Fin 16) :
    (s.takeSlotPost n).pending = s.pending ∧ (s.takeSlotPost n).phase = s.phase ∧
    (s.takeSlotPost n).freeIndex = s.freeIndex ∧ (s.takeSlotPost n).pgood = s.pgood ∧
    (s.takeSlotPost n).bus = s.bus ∧ (s.takeSlotPost n).config = s.config ∧
    (s.takeSlotPost n).eventMask = s.eventMask ∧ (s.takeSlotPost n).image = s.image ∧
    (s.takeSlotPost n).load = s.load ∧ (s.takeSlotPost n).store = s.store ∧ (s.takeSlotPost n).jobs = s.jobs ∧
    (s.takeSlotPost n).plan = s.plan ∧ (s.takeSlotPost n).frame = s.frame ∧ (s.takeSlotPost n).scan = s.scan ∧
    (s.takeSlotPost n).power = s.power ∧ (s.takeSlotPost n).temp = s.temp ∧
    (s.takeSlotPost n).posters = s.posters := by
  unfold State.takeSlotPost; (try dsimp only); (repeat' split) <;> simp

@[simp] theorem takeEntryPost_frame (s : State) (t : Tag) :
    (s.takeEntryPost t).pending = s.pending ∧ (s.takeEntryPost t).phase = s.phase ∧
    (s.takeEntryPost t).freeIndex = s.freeIndex ∧ (s.takeEntryPost t).pgood = s.pgood ∧
    (s.takeEntryPost t).bus = s.bus ∧ (s.takeEntryPost t).config = s.config ∧
    (s.takeEntryPost t).eventMask = s.eventMask ∧ (s.takeEntryPost t).image = s.image ∧
    (s.takeEntryPost t).store = s.store ∧ (s.takeEntryPost t).slots = s.slots ∧
    (s.takeEntryPost t).tiles = s.tiles ∧ (s.takeEntryPost t).jobs = s.jobs ∧
    (s.takeEntryPost t).plan = s.plan ∧ (s.takeEntryPost t).frame = s.frame ∧
    (s.takeEntryPost t).scan = s.scan ∧ (s.takeEntryPost t).power = s.power ∧
    (s.takeEntryPost t).temp = s.temp ∧ (s.takeEntryPost t).posters = s.posters := by
  unfold State.takeEntryPost; (try dsimp only); (repeat' split) <;> simp

@[simp] theorem takePost_frame (s : State) (p : Poster) :
    (s.takePost p).pending = s.pending ∧ (s.takePost p).phase = s.phase ∧
    (s.takePost p).freeIndex = s.freeIndex ∧ (s.takePost p).pgood = s.pgood ∧ (s.takePost p).bus = s.bus ∧
    (s.takePost p).config = s.config ∧ (s.takePost p).eventMask = s.eventMask ∧
    (s.takePost p).image = s.image ∧ (s.takePost p).store = s.store ∧ (s.takePost p).jobs = s.jobs ∧
    (s.takePost p).plan = s.plan ∧ (s.takePost p).frame = s.frame ∧ (s.takePost p).scan = s.scan ∧
    (s.takePost p).power = s.power ∧ (s.takePost p).temp = s.temp ∧ (s.takePost p).posters = s.posters := by
  cases p <;> simp [State.takePost]

@[simp] theorem offer_frame (s : State) (p : Poster) :
    (s.offer p).pending = s.pending ∧ (s.offer p).phase = s.phase ∧ (s.offer p).freeIndex = s.freeIndex ∧
    (s.offer p).pgood = s.pgood ∧ (s.offer p).bus = s.bus ∧ (s.offer p).config = s.config ∧
    (s.offer p).eventMask = s.eventMask ∧ (s.offer p).image = s.image ∧ (s.offer p).store = s.store ∧
    (s.offer p).jobs = s.jobs ∧ (s.offer p).plan = s.plan ∧ (s.offer p).frame = s.frame ∧
    (s.offer p).scan = s.scan ∧ (s.offer p).power = s.power ∧ (s.offer p).temp = s.temp := by
  unfold State.offer; (try dsimp only); (repeat' split) <;> simp

@[simp] theorem endSlot_frame (s : State) (n : Fin 16) (o : SlotOutcome) :
    (s.endSlot n o).pending = s.pending ∧ (s.endSlot n o).phase = s.phase ∧
    (s.endSlot n o).freeIndex = s.freeIndex ∧ (s.endSlot n o).pgood = s.pgood ∧ (s.endSlot n o).bus = s.bus ∧
    (s.endSlot n o).config = s.config ∧ (s.endSlot n o).eventMask = s.eventMask ∧
    (s.endSlot n o).image = s.image ∧ (s.endSlot n o).load = s.load ∧ (s.endSlot n o).store = s.store ∧
    (s.endSlot n o).jobs = s.jobs ∧ (s.endSlot n o).plan = s.plan ∧ (s.endSlot n o).frame = s.frame ∧
    (s.endSlot n o).scan = s.scan ∧ (s.endSlot n o).power = s.power ∧ (s.endSlot n o).temp = s.temp := by
  unfold State.endSlot State.offer; split <;> simp [State.takePost]

@[simp] theorem cutSlot_frame (s : State) (n : Fin 16) (o : SlotOutcome) :
    (s.cutSlot n o).pending = s.pending ∧ (s.cutSlot n o).phase = s.phase ∧
    (s.cutSlot n o).freeIndex = s.freeIndex ∧ (s.cutSlot n o).pgood = s.pgood ∧ (s.cutSlot n o).bus = s.bus ∧
    (s.cutSlot n o).config = s.config ∧ (s.cutSlot n o).eventMask = s.eventMask ∧
    (s.cutSlot n o).image = s.image ∧ (s.cutSlot n o).load = s.load ∧ (s.cutSlot n o).store = s.store ∧
    (s.cutSlot n o).frame = s.frame ∧ (s.cutSlot n o).scan = s.scan ∧ (s.cutSlot n o).power = s.power ∧
    (s.cutSlot n o).temp = s.temp := by
  unfold State.cutSlot; (try dsimp only); (repeat' split) <;> simp

@[simp] theorem cutSlots_frame (s : State) (o : SlotOutcome) (ns : List (Fin 16)) :
    (s.cutSlots o ns).pending = s.pending ∧ (s.cutSlots o ns).phase = s.phase ∧
    (s.cutSlots o ns).freeIndex = s.freeIndex ∧ (s.cutSlots o ns).pgood = s.pgood ∧
    (s.cutSlots o ns).bus = s.bus ∧ (s.cutSlots o ns).config = s.config ∧
    (s.cutSlots o ns).eventMask = s.eventMask ∧ (s.cutSlots o ns).image = s.image ∧
    (s.cutSlots o ns).load = s.load ∧ (s.cutSlots o ns).store = s.store ∧ (s.cutSlots o ns).frame = s.frame ∧
    (s.cutSlots o ns).scan = s.scan ∧ (s.cutSlots o ns).power = s.power ∧ (s.cutSlots o ns).temp = s.temp := by
  induction ns generalizing s with
  | nil => simp [State.cutSlots]
  | cons a t ih => simp [State.cutSlots, ih]

@[simp] theorem offerEntries_frame (s : State) (ts : List Tag) :
    (s.offerEntries ts).pending = s.pending ∧ (s.offerEntries ts).phase = s.phase ∧
    (s.offerEntries ts).freeIndex = s.freeIndex ∧ (s.offerEntries ts).pgood = s.pgood ∧
    (s.offerEntries ts).bus = s.bus ∧ (s.offerEntries ts).config = s.config ∧
    (s.offerEntries ts).eventMask = s.eventMask ∧ (s.offerEntries ts).image = s.image ∧
    (s.offerEntries ts).store = s.store ∧ (s.offerEntries ts).jobs = s.jobs ∧
    (s.offerEntries ts).plan = s.plan ∧ (s.offerEntries ts).frame = s.frame ∧
    (s.offerEntries ts).scan = s.scan ∧ (s.offerEntries ts).power = s.power ∧ (s.offerEntries ts).temp = s.temp := by
  induction ts generalizing s with
  | nil => simp [State.offerEntries]
  | cons a t ih => simp [State.offerEntries, ih]

@[simp] theorem enterOn_frame (s : State) :
    (s.enterOn).pending = s.pending ∧ (s.enterOn).phase = s.phase ∧ (s.enterOn).freeIndex = s.freeIndex ∧
    (s.enterOn).pgood = s.pgood ∧ (s.enterOn).bus = s.bus ∧ (s.enterOn).config = s.config ∧
    (s.enterOn).eventMask = s.eventMask ∧ (s.enterOn).image = s.image ∧ (s.enterOn).load = s.load ∧
    (s.enterOn).store = s.store ∧ (s.enterOn).slots = s.slots ∧ (s.enterOn).tiles = s.tiles ∧
    (s.enterOn).jobs = s.jobs ∧ (s.enterOn).plan = s.plan ∧ (s.enterOn).frame = s.frame ∧
    (s.enterOn).scan = s.scan ∧ (s.enterOn).temp = s.temp ∧ (s.enterOn).completions = s.completions ∧
    (s.enterOn).posters = s.posters := by
  unfold State.enterOn; (try dsimp only); (repeat' split) <;> simp

@[simp] theorem enterRising_frame (s : State) :
    (s.enterRising).pending = s.pending ∧ (s.enterRising).phase = s.phase ∧
    (s.enterRising).freeIndex = s.freeIndex ∧ (s.enterRising).pgood = s.pgood ∧ (s.enterRising).bus = s.bus ∧
    (s.enterRising).config = s.config ∧ (s.enterRising).eventMask = s.eventMask ∧
    (s.enterRising).image = s.image ∧ (s.enterRising).load = s.load ∧ (s.enterRising).store = s.store ∧
    (s.enterRising).slots = s.slots ∧ (s.enterRising).tiles = s.tiles ∧ (s.enterRising).jobs = s.jobs ∧
    (s.enterRising).plan = s.plan ∧ (s.enterRising).frame = s.frame ∧ (s.enterRising).scan = s.scan ∧
    (s.enterRising).temp = s.temp ∧ (s.enterRising).completions = s.completions ∧
    (s.enterRising).posters = s.posters := by
  unfold State.enterRising; (try dsimp only); (repeat' split) <;> simp

@[simp] theorem enterOff_frame (s : State) :
    (s.enterOff).pending = s.pending ∧ (s.enterOff).phase = s.phase ∧ (s.enterOff).freeIndex = s.freeIndex ∧
    (s.enterOff).pgood = s.pgood ∧ (s.enterOff).bus = s.bus ∧ (s.enterOff).config = s.config ∧
    (s.enterOff).eventMask = s.eventMask ∧ (s.enterOff).image = s.image ∧ (s.enterOff).load = s.load ∧
    (s.enterOff).store = s.store ∧ (s.enterOff).slots = s.slots ∧ (s.enterOff).tiles = s.tiles ∧
    (s.enterOff).jobs = s.jobs ∧ (s.enterOff).plan = s.plan ∧ (s.enterOff).frame = s.frame ∧
    (s.enterOff).scan = s.scan ∧ (s.enterOff).temp = s.temp ∧ (s.enterOff).completions = s.completions ∧
    (s.enterOff).posters = s.posters := by
  unfold State.enterOff; (try dsimp only); (repeat' split) <;> simp

@[simp] theorem wakeRequest_frame (s : State) :
    (s.wakeRequest).pending = s.pending ∧ (s.wakeRequest).phase = s.phase ∧
    (s.wakeRequest).freeIndex = s.freeIndex ∧ (s.wakeRequest).pgood = s.pgood ∧ (s.wakeRequest).bus = s.bus ∧
    (s.wakeRequest).config = s.config ∧ (s.wakeRequest).eventMask = s.eventMask ∧
    (s.wakeRequest).image = s.image ∧ (s.wakeRequest).load = s.load ∧ (s.wakeRequest).store = s.store ∧
    (s.wakeRequest).slots = s.slots ∧ (s.wakeRequest).tiles = s.tiles ∧ (s.wakeRequest).jobs = s.jobs ∧
    (s.wakeRequest).plan = s.plan ∧ (s.wakeRequest).frame = s.frame ∧ (s.wakeRequest).scan = s.scan ∧
    (s.wakeRequest).temp = s.temp ∧ (s.wakeRequest).completions = s.completions ∧
    (s.wakeRequest).posters = s.posters := by
  unfold State.wakeRequest; (try dsimp only); (repeat' split) <;> simp

@[simp] theorem dischargeIfDue_frame (s : State) :
    (s.dischargeIfDue).pending = s.pending ∧ (s.dischargeIfDue).phase = s.phase ∧
    (s.dischargeIfDue).freeIndex = s.freeIndex ∧ (s.dischargeIfDue).pgood = s.pgood ∧
    (s.dischargeIfDue).bus = s.bus ∧ (s.dischargeIfDue).config = s.config ∧
    (s.dischargeIfDue).events = s.events ∧ (s.dischargeIfDue).eventMask = s.eventMask ∧
    (s.dischargeIfDue).image = s.image ∧ (s.dischargeIfDue).load = s.load ∧
    (s.dischargeIfDue).store = s.store ∧ (s.dischargeIfDue).queue = s.queue ∧
    (s.dischargeIfDue).dispatcher = s.dispatcher ∧ (s.dischargeIfDue).slots = s.slots ∧
    (s.dischargeIfDue).tiles = s.tiles ∧ (s.dischargeIfDue).jobs = s.jobs ∧ (s.dischargeIfDue).plan = s.plan ∧
    (s.dischargeIfDue).frame = s.frame ∧ (s.dischargeIfDue).scan = s.scan ∧ (s.dischargeIfDue).temp = s.temp ∧
    (s.dischargeIfDue).completions = s.completions ∧ (s.dischargeIfDue).posters = s.posters := by
  unfold State.dischargeIfDue; (try dsimp only); (repeat' split) <;> simp

@[simp] theorem powerFrame_frame (s : State) :
    (s.powerFrame).pending = s.pending ∧ (s.powerFrame).phase = s.phase ∧
    (s.powerFrame).freeIndex = s.freeIndex ∧ (s.powerFrame).pgood = s.pgood ∧ (s.powerFrame).bus = s.bus ∧
    (s.powerFrame).config = s.config ∧ (s.powerFrame).events = s.events ∧
    (s.powerFrame).eventMask = s.eventMask ∧ (s.powerFrame).image = s.image ∧ (s.powerFrame).load = s.load ∧
    (s.powerFrame).store = s.store ∧ (s.powerFrame).queue = s.queue ∧
    (s.powerFrame).dispatcher = s.dispatcher ∧ (s.powerFrame).slots = s.slots ∧
    (s.powerFrame).tiles = s.tiles ∧ (s.powerFrame).jobs = s.jobs ∧ (s.powerFrame).plan = s.plan ∧
    (s.powerFrame).frame = s.frame ∧ (s.powerFrame).scan = s.scan ∧ (s.powerFrame).temp = s.temp ∧
    (s.powerFrame).completions = s.completions ∧ (s.powerFrame).posters = s.posters := by
  unfold State.powerFrame; (try dsimp only); (repeat' split) <;> simp

@[simp] theorem temperatureFrame_frame (s : State) :
    (s.temperatureFrame).pending = s.pending ∧ (s.temperatureFrame).phase = s.phase ∧
    (s.temperatureFrame).freeIndex = s.freeIndex ∧ (s.temperatureFrame).pgood = s.pgood ∧
    (s.temperatureFrame).bus = s.bus ∧ (s.temperatureFrame).config = s.config ∧
    (s.temperatureFrame).events = s.events ∧ (s.temperatureFrame).eventMask = s.eventMask ∧
    (s.temperatureFrame).image = s.image ∧ (s.temperatureFrame).load = s.load ∧
    (s.temperatureFrame).store = s.store ∧ (s.temperatureFrame).queue = s.queue ∧
    (s.temperatureFrame).dispatcher = s.dispatcher ∧ (s.temperatureFrame).slots = s.slots ∧
    (s.temperatureFrame).tiles = s.tiles ∧ (s.temperatureFrame).jobs = s.jobs ∧
    (s.temperatureFrame).plan = s.plan ∧ (s.temperatureFrame).frame = s.frame ∧
    (s.temperatureFrame).scan = s.scan ∧ (s.temperatureFrame).power = s.power ∧
    (s.temperatureFrame).completions = s.completions ∧ (s.temperatureFrame).posters = s.posters := by
  unfold State.temperatureFrame; (try dsimp only); (repeat' split) <;> simp

@[simp] theorem regionFrame_frame (s : State) :
    (s.regionFrame).pending = s.pending ∧ (s.regionFrame).phase = s.phase ∧
    (s.regionFrame).freeIndex = s.freeIndex ∧ (s.regionFrame).pgood = s.pgood ∧ (s.regionFrame).bus = s.bus ∧
    (s.regionFrame).config = s.config ∧ (s.regionFrame).events = s.events ∧
    (s.regionFrame).eventMask = s.eventMask ∧ (s.regionFrame).image = s.image ∧ (s.regionFrame).load = s.load ∧
    (s.regionFrame).store = s.store ∧ (s.regionFrame).queue = s.queue ∧
    (s.regionFrame).dispatcher = s.dispatcher ∧ (s.regionFrame).tiles = s.tiles ∧
    (s.regionFrame).frame = s.frame ∧ (s.regionFrame).scan = s.scan ∧ (s.regionFrame).temp = s.temp ∧
    (s.regionFrame).completions = s.completions ∧ (s.regionFrame).posters = s.posters := by
  unfold State.regionFrame; (try dsimp only); (repeat' split) <;> simp

@[simp] theorem scanFrame_frame (s : State) :
    (s.scanFrame).pending = s.pending ∧ (s.scanFrame).phase = s.phase ∧ (s.scanFrame).freeIndex = s.freeIndex ∧
    (s.scanFrame).pgood = s.pgood ∧ (s.scanFrame).bus = s.bus ∧ (s.scanFrame).config = s.config ∧
    (s.scanFrame).events = s.events ∧ (s.scanFrame).eventMask = s.eventMask ∧ (s.scanFrame).image = s.image ∧
    (s.scanFrame).load = s.load ∧ (s.scanFrame).store = s.store ∧ (s.scanFrame).queue = s.queue ∧
    (s.scanFrame).dispatcher = s.dispatcher ∧ (s.scanFrame).slots = s.slots ∧ (s.scanFrame).tiles = s.tiles ∧
    (s.scanFrame).jobs = s.jobs ∧ (s.scanFrame).plan = s.plan ∧ (s.scanFrame).frame = s.frame ∧
    (s.scanFrame).temp = s.temp ∧ (s.scanFrame).completions = s.completions ∧ (s.scanFrame).posters = s.posters := by
  unfold State.scanFrame; (try dsimp only); (repeat' split) <;> simp

@[simp] theorem deliverFrame_frame (s : State) (o : FrameOrder) :
    (s.deliverFrame o).pending = s.pending ∧ (s.deliverFrame o).phase = s.phase ∧
    (s.deliverFrame o).freeIndex = s.freeIndex ∧ (s.deliverFrame o).pgood = s.pgood ∧
    (s.deliverFrame o).bus = s.bus ∧ (s.deliverFrame o).config = s.config ∧
    (s.deliverFrame o).events = s.events ∧ (s.deliverFrame o).eventMask = s.eventMask ∧
    (s.deliverFrame o).image = s.image ∧ (s.deliverFrame o).load = s.load ∧
    (s.deliverFrame o).store = s.store ∧ (s.deliverFrame o).queue = s.queue ∧
    (s.deliverFrame o).dispatcher = s.dispatcher ∧ (s.deliverFrame o).tiles = s.tiles ∧
    (s.deliverFrame o).completions = s.completions ∧ (s.deliverFrame o).posters = s.posters := by
  cases o <;> simp [State.deliverFrame]

@[simp] theorem endScan_frame (s : State) (o : FrameOrder) :
    (s.endScan o).pending = s.pending ∧ (s.endScan o).phase = s.phase ∧ (s.endScan o).freeIndex = s.freeIndex ∧
    (s.endScan o).pgood = s.pgood ∧ (s.endScan o).bus = s.bus ∧ (s.endScan o).config = s.config ∧
    (s.endScan o).eventMask = s.eventMask ∧ (s.endScan o).image = s.image ∧ (s.endScan o).load = s.load ∧
    (s.endScan o).store = s.store ∧ (s.endScan o).queue = s.queue ∧ (s.endScan o).dispatcher = s.dispatcher ∧
    (s.endScan o).tiles = s.tiles ∧ (s.endScan o).completions = s.completions ∧
    (s.endScan o).posters = s.posters := by
  unfold State.endScan; (try dsimp only); (repeat' split) <;> simp

@[simp] theorem frameStart_frame (s : State) (o : FrameOrder) :
    (s.frameStart o).pending = s.pending ∧ (s.frameStart o).phase = s.phase ∧
    (s.frameStart o).freeIndex = s.freeIndex ∧ (s.frameStart o).pgood = s.pgood ∧
    (s.frameStart o).bus = s.bus ∧ (s.frameStart o).config = s.config ∧
    (s.frameStart o).eventMask = s.eventMask ∧ (s.frameStart o).image = s.image ∧
    (s.frameStart o).load = s.load ∧ (s.frameStart o).store = s.store ∧ (s.frameStart o).queue = s.queue ∧
    (s.frameStart o).dispatcher = s.dispatcher ∧ (s.frameStart o).tiles = s.tiles ∧
    (s.frameStart o).completions = s.completions ∧ (s.frameStart o).posters = s.posters := by
  unfold State.frameStart; (try dsimp only); (repeat' split) <;> simp

@[simp] theorem stopScanIfLeft_frame (s : State) :
    (s.stopScanIfLeft).pending = s.pending ∧ (s.stopScanIfLeft).phase = s.phase ∧
    (s.stopScanIfLeft).freeIndex = s.freeIndex ∧ (s.stopScanIfLeft).pgood = s.pgood ∧
    (s.stopScanIfLeft).bus = s.bus ∧ (s.stopScanIfLeft).config = s.config ∧
    (s.stopScanIfLeft).eventMask = s.eventMask ∧ (s.stopScanIfLeft).image = s.image ∧
    (s.stopScanIfLeft).load = s.load ∧ (s.stopScanIfLeft).store = s.store ∧
    (s.stopScanIfLeft).queue = s.queue ∧ (s.stopScanIfLeft).dispatcher = s.dispatcher ∧
    (s.stopScanIfLeft).tiles = s.tiles ∧ (s.stopScanIfLeft).completions = s.completions ∧
    (s.stopScanIfLeft).posters = s.posters := by
  unfold State.stopScanIfLeft; (try dsimp only); (repeat' split) <;> simp

@[simp] theorem settle_frame (s : State) :
    (s.settle).pending = s.pending ∧ (s.settle).phase = s.phase ∧ (s.settle).freeIndex = s.freeIndex ∧
    (s.settle).pgood = s.pgood ∧ (s.settle).bus = s.bus ∧ (s.settle).config = s.config ∧
    (s.settle).eventMask = s.eventMask ∧ (s.settle).image = s.image ∧ (s.settle).load = s.load ∧
    (s.settle).store = s.store ∧ (s.settle).tiles = s.tiles ∧ (s.settle).completions = s.completions ∧
    (s.settle).posters = s.posters := by
  simp [State.settle]

@[simp] theorem acceptRequest_frame (s : State) (q : Request) :
    (s.acceptRequest q).pending = s.pending ∧ (s.acceptRequest q).phase = s.phase ∧
    (s.acceptRequest q).freeIndex = s.freeIndex ∧ (s.acceptRequest q).pgood = s.pgood ∧
    (s.acceptRequest q).bus = s.bus ∧ (s.acceptRequest q).config = s.config ∧
    (s.acceptRequest q).events = s.events ∧ (s.acceptRequest q).eventMask = s.eventMask ∧
    (s.acceptRequest q).image = s.image ∧ (s.acceptRequest q).load = s.load ∧
    (s.acceptRequest q).store = s.store ∧ (s.acceptRequest q).slots = s.slots ∧
    (s.acceptRequest q).tiles = s.tiles ∧ (s.acceptRequest q).jobs = s.jobs ∧
    (s.acceptRequest q).plan = s.plan ∧ (s.acceptRequest q).frame = s.frame ∧
    (s.acceptRequest q).scan = s.scan ∧ (s.acceptRequest q).power = s.power ∧
    (s.acceptRequest q).temp = s.temp ∧ (s.acceptRequest q).completions = s.completions ∧
    (s.acceptRequest q).posters = s.posters := by
  unfold State.acceptRequest; (try dsimp only); (repeat' split) <;> simp

@[simp] theorem withdraw_frame (s : State) (i : Nat) (t : Tag) :
    (s.withdraw i t).pending = s.pending ∧ (s.withdraw i t).phase = s.phase ∧
    (s.withdraw i t).freeIndex = s.freeIndex ∧ (s.withdraw i t).pgood = s.pgood ∧
    (s.withdraw i t).bus = s.bus ∧ (s.withdraw i t).config = s.config ∧
    (s.withdraw i t).eventMask = s.eventMask ∧ (s.withdraw i t).image = s.image ∧
    (s.withdraw i t).store = s.store ∧ (s.withdraw i t).slots = s.slots ∧ (s.withdraw i t).tiles = s.tiles ∧
    (s.withdraw i t).jobs = s.jobs ∧ (s.withdraw i t).plan = s.plan ∧ (s.withdraw i t).frame = s.frame ∧
    (s.withdraw i t).scan = s.scan ∧ (s.withdraw i t).power = s.power ∧ (s.withdraw i t).temp = s.temp := by
  unfold State.withdraw State.offer; split <;> simp [State.takePost]

@[simp] theorem withdrawAll_frame (s : State) :
    (s.withdrawAll).pending = s.pending ∧ (s.withdrawAll).phase = s.phase ∧
    (s.withdrawAll).freeIndex = s.freeIndex ∧ (s.withdrawAll).pgood = s.pgood ∧ (s.withdrawAll).bus = s.bus ∧
    (s.withdrawAll).config = s.config ∧ (s.withdrawAll).events = s.events ∧
    (s.withdrawAll).eventMask = s.eventMask ∧ (s.withdrawAll).image = s.image ∧ (s.withdrawAll).load = s.load ∧
    (s.withdrawAll).store = s.store ∧ (s.withdrawAll).dispatcher = s.dispatcher ∧
    (s.withdrawAll).slots = s.slots ∧ (s.withdrawAll).tiles = s.tiles ∧ (s.withdrawAll).jobs = s.jobs ∧
    (s.withdrawAll).plan = s.plan ∧ (s.withdrawAll).frame = s.frame ∧ (s.withdrawAll).scan = s.scan ∧
    (s.withdrawAll).power = s.power ∧ (s.withdrawAll).temp = s.temp ∧
    (s.withdrawAll).completions = s.completions ∧ (s.withdrawAll).posters = s.posters := by
  unfold State.withdrawAll; (try dsimp only); (repeat' split) <;> simp

@[simp] theorem reject_frame (s : State) (i : Nat) (e : Entry) (r : RejectReason) :
    (s.reject i e r).pending = s.pending ∧ (s.reject i e r).phase = s.phase ∧
    (s.reject i e r).freeIndex = s.freeIndex ∧ (s.reject i e r).pgood = s.pgood ∧
    (s.reject i e r).bus = s.bus ∧ (s.reject i e r).config = s.config ∧
    (s.reject i e r).eventMask = s.eventMask ∧ (s.reject i e r).image = s.image ∧
    (s.reject i e r).store = s.store ∧ (s.reject i e r).slots = s.slots ∧ (s.reject i e r).tiles = s.tiles ∧
    (s.reject i e r).jobs = s.jobs ∧ (s.reject i e r).plan = s.plan ∧ (s.reject i e r).frame = s.frame ∧
    (s.reject i e r).scan = s.scan ∧ (s.reject i e r).power = s.power ∧ (s.reject i e r).temp = s.temp := by
  unfold State.reject State.offer; split <;> simp [State.takePost]

@[simp] theorem startRegion_frame (s : State) (i : Nat) (n : Fin 16) (sl : Slot) :
    (s.startRegion i n sl).pending = s.pending ∧ (s.startRegion i n sl).phase = s.phase ∧
    (s.startRegion i n sl).freeIndex = s.freeIndex ∧ (s.startRegion i n sl).pgood = s.pgood ∧
    (s.startRegion i n sl).bus = s.bus ∧ (s.startRegion i n sl).config = s.config ∧
    (s.startRegion i n sl).eventMask = s.eventMask ∧ (s.startRegion i n sl).image = s.image ∧
    (s.startRegion i n sl).store = s.store ∧ (s.startRegion i n sl).dispatcher = s.dispatcher ∧
    (s.startRegion i n sl).plan = s.plan ∧ (s.startRegion i n sl).frame = s.frame ∧
    (s.startRegion i n sl).scan = s.scan ∧ (s.startRegion i n sl).power = s.power ∧
    (s.startRegion i n sl).temp = s.temp ∧ (s.startRegion i n sl).completions = s.completions ∧
    (s.startRegion i n sl).posters = s.posters := by
  unfold State.startRegion; (try dsimp only); (repeat' split) <;> simp

@[simp] theorem decideEntry_frame (s : State) (i : Nat) (e : Entry) (b : Fin 8) (n : Fin 16) :
    (s.decideEntry i e b n).pending = s.pending ∧ (s.decideEntry i e b n).phase = s.phase ∧
    (s.decideEntry i e b n).freeIndex = s.freeIndex ∧ (s.decideEntry i e b n).pgood = s.pgood ∧
    (s.decideEntry i e b n).bus = s.bus ∧ (s.decideEntry i e b n).config = s.config ∧
    (s.decideEntry i e b n).eventMask = s.eventMask ∧ (s.decideEntry i e b n).image = s.image ∧
    (s.decideEntry i e b n).store = s.store ∧ (s.decideEntry i e b n).plan = s.plan ∧
    (s.decideEntry i e b n).frame = s.frame ∧ (s.decideEntry i e b n).scan = s.scan ∧
    (s.decideEntry i e b n).power = s.power ∧ (s.decideEntry i e b n).temp = s.temp := by
  unfold State.decideEntry; (try dsimp only); (repeat' split) <;> simp

@[simp] theorem examine_frame (s : State) (i : Nat) (e : Entry) :
    (s.examine i e).pending = s.pending ∧ (s.examine i e).phase = s.phase ∧
    (s.examine i e).freeIndex = s.freeIndex ∧ (s.examine i e).pgood = s.pgood ∧ (s.examine i e).bus = s.bus ∧
    (s.examine i e).config = s.config ∧ (s.examine i e).eventMask = s.eventMask ∧
    (s.examine i e).image = s.image ∧ (s.examine i e).store = s.store ∧ (s.examine i e).plan = s.plan ∧
    (s.examine i e).frame = s.frame ∧ (s.examine i e).scan = s.scan ∧ (s.examine i e).temp = s.temp := by
  unfold State.examine; (try dsimp only); (repeat' split) <;> simp

@[simp] theorem examineNext_frame (s : State) :
    (s.examineNext).pending = s.pending ∧ (s.examineNext).phase = s.phase ∧
    (s.examineNext).freeIndex = s.freeIndex ∧ (s.examineNext).pgood = s.pgood ∧ (s.examineNext).bus = s.bus ∧
    (s.examineNext).config = s.config ∧ (s.examineNext).eventMask = s.eventMask ∧
    (s.examineNext).image = s.image ∧ (s.examineNext).store = s.store ∧ (s.examineNext).plan = s.plan ∧
    (s.examineNext).frame = s.frame ∧ (s.examineNext).scan = s.scan ∧ (s.examineNext).temp = s.temp := by
  unfold State.examineNext; (try dsimp only); (repeat' split) <;> simp

@[simp] theorem serveScan_frame (s : State) (sc : Scan) (y q : Nat) :
    (s.serveScan sc y q).pending = s.pending ∧ (s.serveScan sc y q).phase = s.phase ∧
    (s.serveScan sc y q).freeIndex = s.freeIndex ∧ (s.serveScan sc y q).pgood = s.pgood ∧
    (s.serveScan sc y q).bus = s.bus ∧ (s.serveScan sc y q).config = s.config ∧
    (s.serveScan sc y q).events = s.events ∧ (s.serveScan sc y q).eventMask = s.eventMask ∧
    (s.serveScan sc y q).image = s.image ∧ (s.serveScan sc y q).load = s.load ∧
    (s.serveScan sc y q).store = s.store ∧ (s.serveScan sc y q).queue = s.queue ∧
    (s.serveScan sc y q).dispatcher = s.dispatcher ∧ (s.serveScan sc y q).slots = s.slots ∧
    (s.serveScan sc y q).tiles = s.tiles ∧ (s.serveScan sc y q).jobs = s.jobs ∧
    (s.serveScan sc y q).plan = s.plan ∧ (s.serveScan sc y q).frame = s.frame ∧
    (s.serveScan sc y q).power = s.power ∧ (s.serveScan sc y q).temp = s.temp ∧
    (s.serveScan sc y q).completions = s.completions ∧ (s.serveScan sc y q).posters = s.posters := by
  unfold State.serveScan; (try dsimp only); (repeat' split) <;> simp

@[simp] theorem serveScanReads_frame (s : State) :
    (s.serveScanReads).pending = s.pending ∧ (s.serveScanReads).phase = s.phase ∧
    (s.serveScanReads).freeIndex = s.freeIndex ∧ (s.serveScanReads).pgood = s.pgood ∧
    (s.serveScanReads).bus = s.bus ∧ (s.serveScanReads).config = s.config ∧
    (s.serveScanReads).events = s.events ∧ (s.serveScanReads).eventMask = s.eventMask ∧
    (s.serveScanReads).image = s.image ∧ (s.serveScanReads).load = s.load ∧
    (s.serveScanReads).store = s.store ∧ (s.serveScanReads).queue = s.queue ∧
    (s.serveScanReads).dispatcher = s.dispatcher ∧ (s.serveScanReads).slots = s.slots ∧
    (s.serveScanReads).tiles = s.tiles ∧ (s.serveScanReads).jobs = s.jobs ∧ (s.serveScanReads).plan = s.plan ∧
    (s.serveScanReads).frame = s.frame ∧ (s.serveScanReads).power = s.power ∧
    (s.serveScanReads).temp = s.temp ∧ (s.serveScanReads).completions = s.completions ∧
    (s.serveScanReads).posters = s.posters := by
  unfold State.serveScanReads; (try dsimp only); (repeat' split) <;> simp

@[simp] theorem tickScan_frame (s : State) (sc : Scan) :
    (s.tickScan sc).pending = s.pending ∧ (s.tickScan sc).phase = s.phase ∧
    (s.tickScan sc).freeIndex = s.freeIndex ∧ (s.tickScan sc).pgood = s.pgood ∧ (s.tickScan sc).bus = s.bus ∧
    (s.tickScan sc).config = s.config ∧ (s.tickScan sc).events = s.events ∧
    (s.tickScan sc).eventMask = s.eventMask ∧ (s.tickScan sc).image = s.image ∧ (s.tickScan sc).load = s.load ∧
    (s.tickScan sc).store = s.store ∧ (s.tickScan sc).queue = s.queue ∧
    (s.tickScan sc).dispatcher = s.dispatcher ∧ (s.tickScan sc).slots = s.slots ∧
    (s.tickScan sc).tiles = s.tiles ∧ (s.tickScan sc).jobs = s.jobs ∧ (s.tickScan sc).plan = s.plan ∧
    (s.tickScan sc).frame = s.frame ∧ (s.tickScan sc).power = s.power ∧ (s.tickScan sc).temp = s.temp ∧
    (s.tickScan sc).completions = s.completions ∧ (s.tickScan sc).posters = s.posters := by
  unfold State.tickScan; (try dsimp only); (repeat' split) <;> simp

@[simp] theorem tick_frame (s : State) :
    (s.tick).pending = s.pending ∧ (s.tick).phase = s.phase ∧ (s.tick).freeIndex = s.freeIndex ∧
    (s.tick).pgood = s.pgood ∧ (s.tick).bus = s.bus ∧ (s.tick).config = s.config ∧ (s.tick).events = s.events ∧
    (s.tick).eventMask = s.eventMask ∧ (s.tick).image = s.image ∧ (s.tick).load = s.load ∧
    (s.tick).store = s.store ∧ (s.tick).queue = s.queue ∧ (s.tick).dispatcher = s.dispatcher ∧
    (s.tick).slots = s.slots ∧ (s.tick).tiles = s.tiles ∧ (s.tick).jobs = s.jobs ∧ (s.tick).plan = s.plan ∧
    (s.tick).frame = s.frame ∧ (s.tick).power = s.power ∧ (s.tick).temp = s.temp ∧
    (s.tick).completions = s.completions ∧ (s.tick).posters = s.posters := by
  unfold State.tick; (try dsimp only); (repeat' split) <;> simp

@[simp] theorem endWindow_frame (s : State) (r : EndReason) :
    (s.endWindow r).pending = s.pending ∧ (s.endWindow r).phase = s.phase ∧
    (s.endWindow r).freeIndex = s.freeIndex ∧ (s.endWindow r).pgood = s.pgood ∧ (s.endWindow r).bus = s.bus ∧
    (s.endWindow r).config = s.config ∧ (s.endWindow r).eventMask = s.eventMask ∧
    (s.endWindow r).image = s.image ∧ (s.endWindow r).store = s.store ∧ (s.endWindow r).queue = s.queue ∧
    (s.endWindow r).dispatcher = s.dispatcher ∧ (s.endWindow r).slots = s.slots ∧
    (s.endWindow r).tiles = s.tiles ∧ (s.endWindow r).jobs = s.jobs ∧ (s.endWindow r).plan = s.plan ∧
    (s.endWindow r).frame = s.frame ∧ (s.endWindow r).scan = s.scan ∧ (s.endWindow r).power = s.power ∧
    (s.endWindow r).temp = s.temp ∧ (s.endWindow r).completions = s.completions ∧
    (s.endWindow r).posters = s.posters := by
  unfold State.endWindow; (try dsimp only); (repeat' split) <;> simp

@[simp] theorem overrun_frame (s : State) :
    (s.overrun).pending = s.pending ∧ (s.overrun).phase = s.phase ∧ (s.overrun).freeIndex = s.freeIndex ∧
    (s.overrun).pgood = s.pgood ∧ (s.overrun).bus = s.bus ∧ (s.overrun).config = s.config ∧
    (s.overrun).eventMask = s.eventMask ∧ (s.overrun).image = s.image ∧ (s.overrun).store = s.store ∧
    (s.overrun).queue = s.queue ∧ (s.overrun).dispatcher = s.dispatcher ∧ (s.overrun).slots = s.slots ∧
    (s.overrun).tiles = s.tiles ∧ (s.overrun).jobs = s.jobs ∧ (s.overrun).plan = s.plan ∧
    (s.overrun).frame = s.frame ∧ (s.overrun).scan = s.scan ∧ (s.overrun).power = s.power ∧
    (s.overrun).temp = s.temp ∧ (s.overrun).completions = s.completions ∧ (s.overrun).posters = s.posters := by
  unfold State.overrun; (try dsimp only); (repeat' split) <;> simp

@[simp] theorem present_frame (s : State) :
    (s.present).pending = s.pending ∧ (s.present).phase = s.phase ∧ (s.present).freeIndex = s.freeIndex ∧
    (s.present).pgood = s.pgood ∧ (s.present).bus = s.bus ∧ (s.present).config = s.config ∧
    (s.present).eventMask = s.eventMask ∧ (s.present).image = s.image ∧ (s.present).store = s.store ∧
    (s.present).slots = s.slots ∧ (s.present).tiles = s.tiles ∧ (s.present).jobs = s.jobs ∧
    (s.present).plan = s.plan ∧ (s.present).frame = s.frame ∧ (s.present).scan = s.scan ∧
    (s.present).power = s.power ∧ (s.present).temp = s.temp ∧ (s.present).completions = s.completions ∧
    (s.present).posters = s.posters := by
  unfold State.present; (try dsimp only); (repeat' split) <;> simp

@[simp] theorem completeWindow_frame (s : State) :
    (s.completeWindow).pending = s.pending ∧ (s.completeWindow).phase = s.phase ∧
    (s.completeWindow).freeIndex = s.freeIndex ∧ (s.completeWindow).pgood = s.pgood ∧
    (s.completeWindow).bus = s.bus ∧ (s.completeWindow).config = s.config ∧
    (s.completeWindow).eventMask = s.eventMask ∧ (s.completeWindow).image = s.image ∧
    (s.completeWindow).store = s.store ∧ (s.completeWindow).slots = s.slots ∧
    (s.completeWindow).tiles = s.tiles ∧ (s.completeWindow).jobs = s.jobs ∧ (s.completeWindow).plan = s.plan ∧
    (s.completeWindow).frame = s.frame ∧ (s.completeWindow).scan = s.scan ∧
    (s.completeWindow).power = s.power ∧ (s.completeWindow).temp = s.temp ∧
    (s.completeWindow).completions = s.completions ∧ (s.completeWindow).posters = s.posters := by
  unfold State.completeWindow; (try dsimp only); (repeat' split) <;> simp

@[simp] theorem presentAgain_frame (s : State) :
    (s.presentAgain).pending = s.pending ∧ (s.presentAgain).phase = s.phase ∧
    (s.presentAgain).freeIndex = s.freeIndex ∧ (s.presentAgain).pgood = s.pgood ∧
    (s.presentAgain).bus = s.bus ∧ (s.presentAgain).config = s.config ∧
    (s.presentAgain).eventMask = s.eventMask ∧ (s.presentAgain).image = s.image ∧
    (s.presentAgain).store = s.store ∧ (s.presentAgain).slots = s.slots ∧ (s.presentAgain).tiles = s.tiles ∧
    (s.presentAgain).jobs = s.jobs ∧ (s.presentAgain).plan = s.plan ∧ (s.presentAgain).frame = s.frame ∧
    (s.presentAgain).scan = s.scan ∧ (s.presentAgain).power = s.power ∧ (s.presentAgain).temp = s.temp ∧
    (s.presentAgain).completions = s.completions ∧ (s.presentAgain).posters = s.posters := by
  unfold State.presentAgain; (try dsimp only); (repeat' split) <;> simp

@[simp] theorem streamWrite_frame (s : State) (h : Word) (r : List Word) :
    (s.streamWrite h r).pending = s.pending ∧ (s.streamWrite h r).phase = s.phase ∧
    (s.streamWrite h r).freeIndex = s.freeIndex ∧ (s.streamWrite h r).pgood = s.pgood ∧
    (s.streamWrite h r).bus = s.bus ∧ (s.streamWrite h r).config = s.config ∧
    (s.streamWrite h r).events = s.events ∧ (s.streamWrite h r).eventMask = s.eventMask ∧
    (s.streamWrite h r).store = s.store ∧ (s.streamWrite h r).queue = s.queue ∧
    (s.streamWrite h r).dispatcher = s.dispatcher ∧ (s.streamWrite h r).slots = s.slots ∧
    (s.streamWrite h r).tiles = s.tiles ∧ (s.streamWrite h r).jobs = s.jobs ∧
    (s.streamWrite h r).plan = s.plan ∧ (s.streamWrite h r).frame = s.frame ∧
    (s.streamWrite h r).scan = s.scan ∧ (s.streamWrite h r).power = s.power ∧
    (s.streamWrite h r).temp = s.temp ∧ (s.streamWrite h r).completions = s.completions ∧
    (s.streamWrite h r).posters = s.posters := by
  unfold State.streamWrite; (try dsimp only); (repeat' split) <;> simp

@[simp] theorem prefetchRead_frame (s : State) :
    (s.prefetchRead).pending = s.pending ∧ (s.prefetchRead).phase = s.phase ∧
    (s.prefetchRead).freeIndex = s.freeIndex ∧ (s.prefetchRead).pgood = s.pgood ∧
    (s.prefetchRead).bus = s.bus ∧ (s.prefetchRead).config = s.config ∧ (s.prefetchRead).events = s.events ∧
    (s.prefetchRead).eventMask = s.eventMask ∧ (s.prefetchRead).image = s.image ∧
    (s.prefetchRead).store = s.store ∧ (s.prefetchRead).queue = s.queue ∧
    (s.prefetchRead).dispatcher = s.dispatcher ∧ (s.prefetchRead).slots = s.slots ∧
    (s.prefetchRead).tiles = s.tiles ∧ (s.prefetchRead).jobs = s.jobs ∧ (s.prefetchRead).plan = s.plan ∧
    (s.prefetchRead).frame = s.frame ∧ (s.prefetchRead).scan = s.scan ∧ (s.prefetchRead).power = s.power ∧
    (s.prefetchRead).temp = s.temp ∧ (s.prefetchRead).completions = s.completions ∧
    (s.prefetchRead).posters = s.posters := by
  unfold State.prefetchRead; (try dsimp only); (repeat' split) <;> simp

@[simp] theorem fillWrite_frame (s : State) :
    (s.fillWrite).pending = s.pending ∧ (s.fillWrite).phase = s.phase ∧ (s.fillWrite).freeIndex = s.freeIndex ∧
    (s.fillWrite).pgood = s.pgood ∧ (s.fillWrite).bus = s.bus ∧ (s.fillWrite).config = s.config ∧
    (s.fillWrite).events = s.events ∧ (s.fillWrite).eventMask = s.eventMask ∧ (s.fillWrite).store = s.store ∧
    (s.fillWrite).queue = s.queue ∧ (s.fillWrite).dispatcher = s.dispatcher ∧ (s.fillWrite).slots = s.slots ∧
    (s.fillWrite).tiles = s.tiles ∧ (s.fillWrite).jobs = s.jobs ∧ (s.fillWrite).plan = s.plan ∧
    (s.fillWrite).frame = s.frame ∧ (s.fillWrite).scan = s.scan ∧ (s.fillWrite).power = s.power ∧
    (s.fillWrite).temp = s.temp ∧ (s.fillWrite).completions = s.completions ∧ (s.fillWrite).posters = s.posters := by
  unfold State.fillWrite; (try dsimp only); (repeat' split) <;> simp

@[simp] theorem loadAccess_frame (s : State) :
    (s.loadAccess).pending = s.pending ∧ (s.loadAccess).phase = s.phase ∧
    (s.loadAccess).freeIndex = s.freeIndex ∧ (s.loadAccess).pgood = s.pgood ∧ (s.loadAccess).bus = s.bus ∧
    (s.loadAccess).config = s.config ∧ (s.loadAccess).events = s.events ∧
    (s.loadAccess).eventMask = s.eventMask ∧ (s.loadAccess).store = s.store ∧ (s.loadAccess).queue = s.queue ∧
    (s.loadAccess).dispatcher = s.dispatcher ∧ (s.loadAccess).slots = s.slots ∧
    (s.loadAccess).tiles = s.tiles ∧ (s.loadAccess).jobs = s.jobs ∧ (s.loadAccess).plan = s.plan ∧
    (s.loadAccess).frame = s.frame ∧ (s.loadAccess).scan = s.scan ∧ (s.loadAccess).power = s.power ∧
    (s.loadAccess).temp = s.temp ∧ (s.loadAccess).completions = s.completions ∧
    (s.loadAccess).posters = s.posters := by
  unfold State.loadAccess; (try dsimp only); (repeat' split) <;> simp

@[simp] theorem loadAccessesUntil_frame (s : State) (p : LoadEngine → Bool) (k : Nat) :
    (State.loadAccessesUntil p k s).pending = s.pending ∧ (State.loadAccessesUntil p k s).phase = s.phase ∧
    (State.loadAccessesUntil p k s).freeIndex = s.freeIndex ∧ (State.loadAccessesUntil p k s).pgood = s.pgood ∧
    (State.loadAccessesUntil p k s).bus = s.bus ∧ (State.loadAccessesUntil p k s).config = s.config ∧
    (State.loadAccessesUntil p k s).events = s.events ∧
    (State.loadAccessesUntil p k s).eventMask = s.eventMask ∧ (State.loadAccessesUntil p k s).store = s.store ∧
    (State.loadAccessesUntil p k s).queue = s.queue ∧
    (State.loadAccessesUntil p k s).dispatcher = s.dispatcher ∧
    (State.loadAccessesUntil p k s).slots = s.slots ∧ (State.loadAccessesUntil p k s).tiles = s.tiles ∧
    (State.loadAccessesUntil p k s).jobs = s.jobs ∧ (State.loadAccessesUntil p k s).plan = s.plan ∧
    (State.loadAccessesUntil p k s).frame = s.frame ∧ (State.loadAccessesUntil p k s).scan = s.scan ∧
    (State.loadAccessesUntil p k s).power = s.power ∧ (State.loadAccessesUntil p k s).temp = s.temp ∧
    (State.loadAccessesUntil p k s).completions = s.completions ∧
    (State.loadAccessesUntil p k s).posters = s.posters := by
  induction k generalizing s with
  | zero => simp [State.loadAccessesUntil]
  | succ k ih => unfold State.loadAccessesUntil; split <;> simp [ih]

@[simp] theorem serveLoad_frame (s : State) (p : LoadEngine → Bool) (k : Nat) :
    (s.serveLoad p k).pending = s.pending ∧ (s.serveLoad p k).phase = s.phase ∧
    (s.serveLoad p k).freeIndex = s.freeIndex ∧ (s.serveLoad p k).pgood = s.pgood ∧
    (s.serveLoad p k).bus = s.bus ∧ (s.serveLoad p k).config = s.config ∧ (s.serveLoad p k).events = s.events ∧
    (s.serveLoad p k).eventMask = s.eventMask ∧ (s.serveLoad p k).store = s.store ∧
    (s.serveLoad p k).queue = s.queue ∧ (s.serveLoad p k).dispatcher = s.dispatcher ∧
    (s.serveLoad p k).slots = s.slots ∧ (s.serveLoad p k).tiles = s.tiles ∧ (s.serveLoad p k).jobs = s.jobs ∧
    (s.serveLoad p k).plan = s.plan ∧ (s.serveLoad p k).frame = s.frame ∧ (s.serveLoad p k).power = s.power ∧
    (s.serveLoad p k).temp = s.temp ∧ (s.serveLoad p k).completions = s.completions ∧
    (s.serveLoad p k).posters = s.posters := by
  unfold State.serveLoad; (try dsimp only); (repeat' split) <;> simp

@[simp] theorem receiveWord_frame (s : State) (w : Word) :
    (s.receiveWord w).pending = s.pending ∧ (s.receiveWord w).phase = s.phase ∧
    (s.receiveWord w).freeIndex = s.freeIndex ∧ (s.receiveWord w).pgood = s.pgood ∧
    (s.receiveWord w).bus = s.bus ∧ (s.receiveWord w).config = s.config ∧ (s.receiveWord w).events = s.events ∧
    (s.receiveWord w).eventMask = s.eventMask ∧ (s.receiveWord w).image = s.image ∧
    (s.receiveWord w).store = s.store ∧ (s.receiveWord w).queue = s.queue ∧
    (s.receiveWord w).dispatcher = s.dispatcher ∧ (s.receiveWord w).slots = s.slots ∧
    (s.receiveWord w).tiles = s.tiles ∧ (s.receiveWord w).jobs = s.jobs ∧ (s.receiveWord w).plan = s.plan ∧
    (s.receiveWord w).frame = s.frame ∧ (s.receiveWord w).scan = s.scan ∧ (s.receiveWord w).power = s.power ∧
    (s.receiveWord w).temp = s.temp ∧ (s.receiveWord w).completions = s.completions ∧
    (s.receiveWord w).posters = s.posters := by
  unfold State.receiveWord; (try dsimp only); (repeat' split) <;> simp

@[simp] theorem writeStream_frame (s : State) (w : Word) :
    (s.writeStream w).pending = s.pending ∧ (s.writeStream w).phase = s.phase ∧
    (s.writeStream w).freeIndex = s.freeIndex ∧ (s.writeStream w).pgood = s.pgood ∧
    (s.writeStream w).config = s.config ∧ (s.writeStream w).eventMask = s.eventMask ∧
    (s.writeStream w).image = s.image ∧ (s.writeStream w).store = s.store ∧ (s.writeStream w).queue = s.queue ∧
    (s.writeStream w).dispatcher = s.dispatcher ∧ (s.writeStream w).slots = s.slots ∧
    (s.writeStream w).tiles = s.tiles ∧ (s.writeStream w).jobs = s.jobs ∧ (s.writeStream w).plan = s.plan ∧
    (s.writeStream w).frame = s.frame ∧ (s.writeStream w).scan = s.scan ∧ (s.writeStream w).power = s.power ∧
    (s.writeStream w).temp = s.temp ∧ (s.writeStream w).completions = s.completions ∧
    (s.writeStream w).posters = s.posters := by
  unfold State.writeStream; (try dsimp only); (repeat' split) <;> simp

@[simp] theorem deliverWord_frame (s : State) (h : Word) (r : List Word) :
    (s.deliverWord h r).pending = s.pending ∧ (s.deliverWord h r).phase = s.phase ∧
    (s.deliverWord h r).freeIndex = s.freeIndex ∧ (s.deliverWord h r).pgood = s.pgood ∧
    (s.deliverWord h r).config = s.config ∧ (s.deliverWord h r).eventMask = s.eventMask ∧
    (s.deliverWord h r).image = s.image ∧ (s.deliverWord h r).store = s.store ∧
    (s.deliverWord h r).queue = s.queue ∧ (s.deliverWord h r).dispatcher = s.dispatcher ∧
    (s.deliverWord h r).slots = s.slots ∧ (s.deliverWord h r).tiles = s.tiles ∧
    (s.deliverWord h r).jobs = s.jobs ∧ (s.deliverWord h r).plan = s.plan ∧
    (s.deliverWord h r).frame = s.frame ∧ (s.deliverWord h r).scan = s.scan ∧
    (s.deliverWord h r).power = s.power ∧ (s.deliverWord h r).temp = s.temp ∧
    (s.deliverWord h r).completions = s.completions ∧ (s.deliverWord h r).posters = s.posters := by
  unfold State.deliverWord; (try dsimp only); (repeat' split) <;> simp

@[simp] theorem readStream_frame (s : State) :
    (s.readStream).pending = s.pending ∧ (s.readStream).phase = s.phase ∧
    (s.readStream).freeIndex = s.freeIndex ∧ (s.readStream).pgood = s.pgood ∧
    (s.readStream).config = s.config ∧ (s.readStream).eventMask = s.eventMask ∧
    (s.readStream).image = s.image ∧ (s.readStream).store = s.store ∧ (s.readStream).queue = s.queue ∧
    (s.readStream).dispatcher = s.dispatcher ∧ (s.readStream).slots = s.slots ∧
    (s.readStream).tiles = s.tiles ∧ (s.readStream).jobs = s.jobs ∧ (s.readStream).plan = s.plan ∧
    (s.readStream).frame = s.frame ∧ (s.readStream).scan = s.scan ∧ (s.readStream).power = s.power ∧
    (s.readStream).temp = s.temp ∧ (s.readStream).completions = s.completions ∧
    (s.readStream).posters = s.posters := by
  unfold State.readStream; (try dsimp only); (repeat' split) <;> simp

@[simp] theorem endStretchedWrite_frame (s : State) :
    (s.endStretchedWrite).pending = s.pending ∧ (s.endStretchedWrite).phase = s.phase ∧
    (s.endStretchedWrite).freeIndex = s.freeIndex ∧ (s.endStretchedWrite).pgood = s.pgood ∧
    (s.endStretchedWrite).config = s.config ∧ (s.endStretchedWrite).eventMask = s.eventMask ∧
    (s.endStretchedWrite).store = s.store ∧ (s.endStretchedWrite).queue = s.queue ∧
    (s.endStretchedWrite).dispatcher = s.dispatcher ∧ (s.endStretchedWrite).slots = s.slots ∧
    (s.endStretchedWrite).tiles = s.tiles ∧ (s.endStretchedWrite).jobs = s.jobs ∧
    (s.endStretchedWrite).plan = s.plan ∧ (s.endStretchedWrite).frame = s.frame ∧
    (s.endStretchedWrite).power = s.power ∧ (s.endStretchedWrite).temp = s.temp ∧
    (s.endStretchedWrite).completions = s.completions ∧ (s.endStretchedWrite).posters = s.posters := by
  unfold State.endStretchedWrite; (try dsimp only); (repeat' split) <;> simp

@[simp] theorem endStretchedRead_frame (s : State) :
    (s.endStretchedRead).pending = s.pending ∧ (s.endStretchedRead).phase = s.phase ∧
    (s.endStretchedRead).freeIndex = s.freeIndex ∧ (s.endStretchedRead).pgood = s.pgood ∧
    (s.endStretchedRead).config = s.config ∧ (s.endStretchedRead).eventMask = s.eventMask ∧
    (s.endStretchedRead).store = s.store ∧ (s.endStretchedRead).queue = s.queue ∧
    (s.endStretchedRead).dispatcher = s.dispatcher ∧ (s.endStretchedRead).slots = s.slots ∧
    (s.endStretchedRead).tiles = s.tiles ∧ (s.endStretchedRead).jobs = s.jobs ∧
    (s.endStretchedRead).plan = s.plan ∧ (s.endStretchedRead).frame = s.frame ∧
    (s.endStretchedRead).power = s.power ∧ (s.endStretchedRead).temp = s.temp ∧
    (s.endStretchedRead).completions = s.completions ∧ (s.endStretchedRead).posters = s.posters := by
  unfold State.endStretchedRead; (try dsimp only); (repeat' split) <;> simp

@[simp] theorem endDrain_frame (s : State) :
    (s.endDrain).pending = s.pending ∧ (s.endDrain).phase = s.phase ∧ (s.endDrain).freeIndex = s.freeIndex ∧
    (s.endDrain).pgood = s.pgood ∧ (s.endDrain).bus = s.bus ∧ (s.endDrain).config = s.config ∧
    (s.endDrain).eventMask = s.eventMask ∧ (s.endDrain).store = s.store ∧ (s.endDrain).slots = s.slots ∧
    (s.endDrain).tiles = s.tiles ∧ (s.endDrain).jobs = s.jobs ∧ (s.endDrain).plan = s.plan ∧
    (s.endDrain).frame = s.frame ∧ (s.endDrain).power = s.power ∧ (s.endDrain).temp = s.temp ∧
    (s.endDrain).completions = s.completions ∧ (s.endDrain).posters = s.posters := by
  unfold State.endDrain; (try dsimp only); (repeat' split) <;> simp

@[simp] theorem endFill_frame (s : State) :
    (s.endFill).pending = s.pending ∧ (s.endFill).phase = s.phase ∧ (s.endFill).freeIndex = s.freeIndex ∧
    (s.endFill).pgood = s.pgood ∧ (s.endFill).bus = s.bus ∧ (s.endFill).config = s.config ∧
    (s.endFill).eventMask = s.eventMask ∧ (s.endFill).store = s.store ∧ (s.endFill).slots = s.slots ∧
    (s.endFill).tiles = s.tiles ∧ (s.endFill).jobs = s.jobs ∧ (s.endFill).plan = s.plan ∧
    (s.endFill).frame = s.frame ∧ (s.endFill).power = s.power ∧ (s.endFill).temp = s.temp ∧
    (s.endFill).completions = s.completions ∧ (s.endFill).posters = s.posters := by
  unfold State.endFill; (try dsimp only); (repeat' split) <;> simp

@[simp] theorem reopenMode_frame (s : State) (m : Fin 8) :
    (s.reopenMode m).pending = s.pending ∧ (s.reopenMode m).phase = s.phase ∧
    (s.reopenMode m).freeIndex = s.freeIndex ∧ (s.reopenMode m).pgood = s.pgood ∧
    (s.reopenMode m).bus = s.bus ∧ (s.reopenMode m).config = s.config ∧
    (s.reopenMode m).eventMask = s.eventMask ∧ (s.reopenMode m).image = s.image ∧
    (s.reopenMode m).load = s.load ∧ (s.reopenMode m).queue = s.queue ∧
    (s.reopenMode m).dispatcher = s.dispatcher ∧ (s.reopenMode m).slots = s.slots ∧
    (s.reopenMode m).tiles = s.tiles ∧ (s.reopenMode m).jobs = s.jobs ∧ (s.reopenMode m).plan = s.plan ∧
    (s.reopenMode m).frame = s.frame ∧ (s.reopenMode m).scan = s.scan ∧ (s.reopenMode m).power = s.power ∧
    (s.reopenMode m).temp = s.temp ∧ (s.reopenMode m).completions = s.completions ∧
    (s.reopenMode m).posters = s.posters := by
  unfold State.reopenMode; (try dsimp only); (repeat' split) <;> simp

@[simp] theorem reopenModes_frame (s : State) (ms : List (Fin 8)) :
    (s.reopenModes ms).pending = s.pending ∧ (s.reopenModes ms).phase = s.phase ∧
    (s.reopenModes ms).freeIndex = s.freeIndex ∧ (s.reopenModes ms).pgood = s.pgood ∧
    (s.reopenModes ms).bus = s.bus ∧ (s.reopenModes ms).config = s.config ∧
    (s.reopenModes ms).eventMask = s.eventMask ∧ (s.reopenModes ms).image = s.image ∧
    (s.reopenModes ms).load = s.load ∧ (s.reopenModes ms).queue = s.queue ∧
    (s.reopenModes ms).dispatcher = s.dispatcher ∧ (s.reopenModes ms).slots = s.slots ∧
    (s.reopenModes ms).tiles = s.tiles ∧ (s.reopenModes ms).jobs = s.jobs ∧ (s.reopenModes ms).plan = s.plan ∧
    (s.reopenModes ms).frame = s.frame ∧ (s.reopenModes ms).scan = s.scan ∧
    (s.reopenModes ms).power = s.power ∧ (s.reopenModes ms).temp = s.temp ∧
    (s.reopenModes ms).completions = s.completions ∧ (s.reopenModes ms).posters = s.posters := by
  induction ms generalizing s with
  | nil => simp [State.reopenModes]
  | cons a t ih => simp [State.reopenModes, ih]

@[simp] theorem writeDescriptor_frame (s : State) (k : Nat) (w : Word) :
    (s.writeDescriptor k w).pending = s.pending ∧ (s.writeDescriptor k w).phase = s.phase ∧
    (s.writeDescriptor k w).freeIndex = s.freeIndex ∧ (s.writeDescriptor k w).pgood = s.pgood ∧
    (s.writeDescriptor k w).config = s.config ∧ (s.writeDescriptor k w).eventMask = s.eventMask ∧
    (s.writeDescriptor k w).image = s.image ∧ (s.writeDescriptor k w).load = s.load ∧
    (s.writeDescriptor k w).queue = s.queue ∧ (s.writeDescriptor k w).dispatcher = s.dispatcher ∧
    (s.writeDescriptor k w).slots = s.slots ∧ (s.writeDescriptor k w).tiles = s.tiles ∧
    (s.writeDescriptor k w).jobs = s.jobs ∧ (s.writeDescriptor k w).plan = s.plan ∧
    (s.writeDescriptor k w).frame = s.frame ∧ (s.writeDescriptor k w).scan = s.scan ∧
    (s.writeDescriptor k w).power = s.power ∧ (s.writeDescriptor k w).temp = s.temp ∧
    (s.writeDescriptor k w).completions = s.completions ∧ (s.writeDescriptor k w).posters = s.posters := by
  unfold State.writeDescriptor State.tableWrite; (repeat' split) <;> simp <;> split <;> simp

@[simp] theorem writePair_frame (s : State) (k : Nat) (w : Word) :
    (s.writePair k w).pending = s.pending ∧ (s.writePair k w).phase = s.phase ∧
    (s.writePair k w).freeIndex = s.freeIndex ∧ (s.writePair k w).pgood = s.pgood ∧
    (s.writePair k w).config = s.config ∧ (s.writePair k w).eventMask = s.eventMask ∧
    (s.writePair k w).image = s.image ∧ (s.writePair k w).load = s.load ∧ (s.writePair k w).queue = s.queue ∧
    (s.writePair k w).dispatcher = s.dispatcher ∧ (s.writePair k w).slots = s.slots ∧
    (s.writePair k w).tiles = s.tiles ∧ (s.writePair k w).jobs = s.jobs ∧ (s.writePair k w).plan = s.plan ∧
    (s.writePair k w).frame = s.frame ∧ (s.writePair k w).scan = s.scan ∧ (s.writePair k w).power = s.power ∧
    (s.writePair k w).temp = s.temp ∧ (s.writePair k w).completions = s.completions ∧
    (s.writePair k w).posters = s.posters := by
  unfold State.writePair State.tableWrite; (repeat' split) <;> simp

@[simp] theorem writeRow_frame (s : State) (k : Nat) (w : Word) :
    (s.writeRow k w).pending = s.pending ∧ (s.writeRow k w).phase = s.phase ∧
    (s.writeRow k w).freeIndex = s.freeIndex ∧ (s.writeRow k w).pgood = s.pgood ∧
    (s.writeRow k w).config = s.config ∧ (s.writeRow k w).eventMask = s.eventMask ∧
    (s.writeRow k w).image = s.image ∧ (s.writeRow k w).load = s.load ∧ (s.writeRow k w).queue = s.queue ∧
    (s.writeRow k w).dispatcher = s.dispatcher ∧ (s.writeRow k w).slots = s.slots ∧
    (s.writeRow k w).tiles = s.tiles ∧ (s.writeRow k w).jobs = s.jobs ∧ (s.writeRow k w).plan = s.plan ∧
    (s.writeRow k w).frame = s.frame ∧ (s.writeRow k w).scan = s.scan ∧ (s.writeRow k w).power = s.power ∧
    (s.writeRow k w).temp = s.temp ∧ (s.writeRow k w).completions = s.completions ∧
    (s.writeRow k w).posters = s.posters := by
  unfold State.writeRow State.tableWrite; (repeat' split) <;> simp

@[simp] theorem writeBandTable_frame (s : State) (k : Nat) (w : Word) :
    (s.writeBandTable k w).pending = s.pending ∧ (s.writeBandTable k w).phase = s.phase ∧
    (s.writeBandTable k w).freeIndex = s.freeIndex ∧ (s.writeBandTable k w).pgood = s.pgood ∧
    (s.writeBandTable k w).bus = s.bus ∧ (s.writeBandTable k w).config = s.config ∧
    (s.writeBandTable k w).events = s.events ∧ (s.writeBandTable k w).eventMask = s.eventMask ∧
    (s.writeBandTable k w).image = s.image ∧ (s.writeBandTable k w).load = s.load ∧
    (s.writeBandTable k w).store = s.store ∧ (s.writeBandTable k w).queue = s.queue ∧
    (s.writeBandTable k w).dispatcher = s.dispatcher ∧ (s.writeBandTable k w).slots = s.slots ∧
    (s.writeBandTable k w).tiles = s.tiles ∧ (s.writeBandTable k w).jobs = s.jobs ∧
    (s.writeBandTable k w).plan = s.plan ∧ (s.writeBandTable k w).frame = s.frame ∧
    (s.writeBandTable k w).scan = s.scan ∧ (s.writeBandTable k w).power = s.power ∧
    (s.writeBandTable k w).completions = s.completions ∧ (s.writeBandTable k w).posters = s.posters := by
  unfold State.writeBandTable; (try dsimp only); (repeat' split) <;> simp

@[simp] theorem tablePortWrite_frame (s : State) (w : Word) :
    (s.tablePortWrite w).pending = s.pending ∧ (s.tablePortWrite w).phase = s.phase ∧
    (s.tablePortWrite w).freeIndex = s.freeIndex ∧ (s.tablePortWrite w).pgood = s.pgood ∧
    (s.tablePortWrite w).config = s.config ∧ (s.tablePortWrite w).eventMask = s.eventMask ∧
    (s.tablePortWrite w).image = s.image ∧ (s.tablePortWrite w).load = s.load ∧
    (s.tablePortWrite w).queue = s.queue ∧ (s.tablePortWrite w).dispatcher = s.dispatcher ∧
    (s.tablePortWrite w).slots = s.slots ∧ (s.tablePortWrite w).tiles = s.tiles ∧
    (s.tablePortWrite w).jobs = s.jobs ∧ (s.tablePortWrite w).plan = s.plan ∧
    (s.tablePortWrite w).frame = s.frame ∧ (s.tablePortWrite w).scan = s.scan ∧
    (s.tablePortWrite w).power = s.power ∧ (s.tablePortWrite w).completions = s.completions ∧
    (s.tablePortWrite w).posters = s.posters := by
  unfold State.tablePortWrite; (try dsimp only); (repeat' split) <;> simp

@[simp] theorem tablePortRead_frame (s : State) :
    (s.tablePortRead).pending = s.pending ∧ (s.tablePortRead).phase = s.phase ∧
    (s.tablePortRead).freeIndex = s.freeIndex ∧ (s.tablePortRead).pgood = s.pgood ∧
    (s.tablePortRead).config = s.config ∧ (s.tablePortRead).events = s.events ∧
    (s.tablePortRead).eventMask = s.eventMask ∧ (s.tablePortRead).image = s.image ∧
    (s.tablePortRead).load = s.load ∧ (s.tablePortRead).store = s.store ∧ (s.tablePortRead).queue = s.queue ∧
    (s.tablePortRead).dispatcher = s.dispatcher ∧ (s.tablePortRead).slots = s.slots ∧
    (s.tablePortRead).tiles = s.tiles ∧ (s.tablePortRead).jobs = s.jobs ∧ (s.tablePortRead).plan = s.plan ∧
    (s.tablePortRead).frame = s.frame ∧ (s.tablePortRead).scan = s.scan ∧ (s.tablePortRead).power = s.power ∧
    (s.tablePortRead).temp = s.temp ∧ (s.tablePortRead).completions = s.completions ∧
    (s.tablePortRead).posters = s.posters := by
  unfold State.tablePortRead; (try dsimp only); (repeat' split) <;> simp

@[simp] theorem endCheck_frame (s : State) :
    (s.endCheck).pending = s.pending ∧ (s.endCheck).phase = s.phase ∧ (s.endCheck).freeIndex = s.freeIndex ∧
    (s.endCheck).pgood = s.pgood ∧ (s.endCheck).bus = s.bus ∧ (s.endCheck).config = s.config ∧
    (s.endCheck).eventMask = s.eventMask ∧ (s.endCheck).image = s.image ∧ (s.endCheck).load = s.load ∧
    (s.endCheck).slots = s.slots ∧ (s.endCheck).tiles = s.tiles ∧ (s.endCheck).jobs = s.jobs ∧
    (s.endCheck).plan = s.plan ∧ (s.endCheck).frame = s.frame ∧ (s.endCheck).scan = s.scan ∧
    (s.endCheck).power = s.power ∧ (s.endCheck).temp = s.temp ∧ (s.endCheck).completions = s.completions ∧
    (s.endCheck).posters = s.posters := by
  unfold State.endCheck; (try dsimp only); (repeat' split) <;> simp

@[simp] theorem jobAccess_frame (s : State) :
    (s.jobAccess).pending = s.pending ∧ (s.jobAccess).phase = s.phase ∧ (s.jobAccess).freeIndex = s.freeIndex ∧
    (s.jobAccess).pgood = s.pgood ∧ (s.jobAccess).bus = s.bus ∧ (s.jobAccess).config = s.config ∧
    (s.jobAccess).events = s.events ∧ (s.jobAccess).eventMask = s.eventMask ∧ (s.jobAccess).load = s.load ∧
    (s.jobAccess).store = s.store ∧ (s.jobAccess).queue = s.queue ∧ (s.jobAccess).dispatcher = s.dispatcher ∧
    (s.jobAccess).slots = s.slots ∧ (s.jobAccess).tiles = s.tiles ∧ (s.jobAccess).plan = s.plan ∧
    (s.jobAccess).frame = s.frame ∧ (s.jobAccess).scan = s.scan ∧ (s.jobAccess).power = s.power ∧
    (s.jobAccess).temp = s.temp ∧ (s.jobAccess).completions = s.completions ∧ (s.jobAccess).posters = s.posters := by
  unfold State.jobAccess; (repeat' split) <;> (try dsimp only) <;> (repeat' split) <;> simp

@[simp] theorem jobAccesses_frame (s : State) (k : Nat) :
    (State.jobAccesses k s).pending = s.pending ∧ (State.jobAccesses k s).phase = s.phase ∧
    (State.jobAccesses k s).freeIndex = s.freeIndex ∧ (State.jobAccesses k s).pgood = s.pgood ∧
    (State.jobAccesses k s).bus = s.bus ∧ (State.jobAccesses k s).config = s.config ∧
    (State.jobAccesses k s).events = s.events ∧ (State.jobAccesses k s).eventMask = s.eventMask ∧
    (State.jobAccesses k s).load = s.load ∧ (State.jobAccesses k s).store = s.store ∧
    (State.jobAccesses k s).queue = s.queue ∧ (State.jobAccesses k s).dispatcher = s.dispatcher ∧
    (State.jobAccesses k s).slots = s.slots ∧ (State.jobAccesses k s).tiles = s.tiles ∧
    (State.jobAccesses k s).plan = s.plan ∧ (State.jobAccesses k s).frame = s.frame ∧
    (State.jobAccesses k s).scan = s.scan ∧ (State.jobAccesses k s).power = s.power ∧
    (State.jobAccesses k s).temp = s.temp ∧ (State.jobAccesses k s).completions = s.completions ∧
    (State.jobAccesses k s).posters = s.posters := by
  induction k generalizing s with
  | zero => simp [State.jobAccesses]
  | succ k ih => simp [State.jobAccesses, ih]

@[simp] theorem serveJob_frame (s : State) :
    (s.serveJob).pending = s.pending ∧ (s.serveJob).phase = s.phase ∧ (s.serveJob).freeIndex = s.freeIndex ∧
    (s.serveJob).pgood = s.pgood ∧ (s.serveJob).bus = s.bus ∧ (s.serveJob).config = s.config ∧
    (s.serveJob).events = s.events ∧ (s.serveJob).eventMask = s.eventMask ∧ (s.serveJob).load = s.load ∧
    (s.serveJob).store = s.store ∧ (s.serveJob).queue = s.queue ∧ (s.serveJob).dispatcher = s.dispatcher ∧
    (s.serveJob).slots = s.slots ∧ (s.serveJob).tiles = s.tiles ∧ (s.serveJob).plan = s.plan ∧
    (s.serveJob).frame = s.frame ∧ (s.serveJob).power = s.power ∧ (s.serveJob).temp = s.temp ∧
    (s.serveJob).completions = s.completions ∧ (s.serveJob).posters = s.posters := by
  unfold State.serveJob; (try dsimp only); (repeat' split) <;> simp

@[simp] theorem endSnapshot_frame (s : State) :
    (s.endSnapshot).pending = s.pending ∧ (s.endSnapshot).phase = s.phase ∧
    (s.endSnapshot).freeIndex = s.freeIndex ∧ (s.endSnapshot).pgood = s.pgood ∧ (s.endSnapshot).bus = s.bus ∧
    (s.endSnapshot).config = s.config ∧ (s.endSnapshot).events = s.events ∧
    (s.endSnapshot).eventMask = s.eventMask ∧ (s.endSnapshot).load = s.load ∧ (s.endSnapshot).store = s.store ∧
    (s.endSnapshot).queue = s.queue ∧ (s.endSnapshot).dispatcher = s.dispatcher ∧
    (s.endSnapshot).tiles = s.tiles ∧ (s.endSnapshot).plan = s.plan ∧ (s.endSnapshot).frame = s.frame ∧
    (s.endSnapshot).power = s.power ∧ (s.endSnapshot).temp = s.temp ∧
    (s.endSnapshot).completions = s.completions ∧ (s.endSnapshot).posters = s.posters := by
  unfold State.endSnapshot; (try dsimp only); (repeat' split) <;> simp

@[simp] theorem endCommit_frame (s : State) :
    (s.endCommit).pending = s.pending ∧ (s.endCommit).phase = s.phase ∧ (s.endCommit).freeIndex = s.freeIndex ∧
    (s.endCommit).pgood = s.pgood ∧ (s.endCommit).bus = s.bus ∧ (s.endCommit).config = s.config ∧
    (s.endCommit).eventMask = s.eventMask ∧ (s.endCommit).load = s.load ∧ (s.endCommit).store = s.store ∧
    (s.endCommit).plan = s.plan ∧ (s.endCommit).frame = s.frame ∧ (s.endCommit).power = s.power ∧
    (s.endCommit).temp = s.temp := by
  unfold State.endCommit; (try dsimp only); (repeat' split) <;> simp

@[simp] theorem lowerAccess_frame (s : State) :
    (s.lowerAccess).pending = s.pending ∧ (s.lowerAccess).phase = s.phase ∧
    (s.lowerAccess).freeIndex = s.freeIndex ∧ (s.lowerAccess).pgood = s.pgood ∧ (s.lowerAccess).bus = s.bus ∧
    (s.lowerAccess).config = s.config ∧ (s.lowerAccess).events = s.events ∧
    (s.lowerAccess).eventMask = s.eventMask ∧ (s.lowerAccess).store = s.store ∧
    (s.lowerAccess).queue = s.queue ∧ (s.lowerAccess).dispatcher = s.dispatcher ∧
    (s.lowerAccess).slots = s.slots ∧ (s.lowerAccess).tiles = s.tiles ∧ (s.lowerAccess).plan = s.plan ∧
    (s.lowerAccess).frame = s.frame ∧ (s.lowerAccess).scan = s.scan ∧ (s.lowerAccess).power = s.power ∧
    (s.lowerAccess).temp = s.temp ∧ (s.lowerAccess).completions = s.completions ∧
    (s.lowerAccess).posters = s.posters := by
  unfold State.lowerAccess; (try dsimp only); (repeat' split) <;> simp

@[simp] theorem quadAccess_frame (s : State) :
    (s.quadAccess).pending = s.pending ∧ (s.quadAccess).phase = s.phase ∧
    (s.quadAccess).freeIndex = s.freeIndex ∧ (s.quadAccess).pgood = s.pgood ∧ (s.quadAccess).bus = s.bus ∧
    (s.quadAccess).config = s.config ∧ (s.quadAccess).events = s.events ∧
    (s.quadAccess).eventMask = s.eventMask ∧ (s.quadAccess).store = s.store ∧ (s.quadAccess).queue = s.queue ∧
    (s.quadAccess).dispatcher = s.dispatcher ∧ (s.quadAccess).slots = s.slots ∧
    (s.quadAccess).tiles = s.tiles ∧ (s.quadAccess).plan = s.plan ∧ (s.quadAccess).frame = s.frame ∧
    (s.quadAccess).power = s.power ∧ (s.quadAccess).temp = s.temp ∧
    (s.quadAccess).completions = s.completions ∧ (s.quadAccess).posters = s.posters := by
  unfold State.quadAccess; (try dsimp only); (repeat' split) <;> simp

@[simp] theorem endConversion_frame (s : State) (c : BitVec 10) :
    (s.endConversion c).pending = s.pending ∧ (s.endConversion c).phase = s.phase ∧
    (s.endConversion c).freeIndex = s.freeIndex ∧ (s.endConversion c).pgood = s.pgood ∧
    (s.endConversion c).bus = s.bus ∧ (s.endConversion c).config = s.config ∧
    (s.endConversion c).eventMask = s.eventMask ∧ (s.endConversion c).image = s.image ∧
    (s.endConversion c).load = s.load ∧ (s.endConversion c).store = s.store ∧
    (s.endConversion c).slots = s.slots ∧ (s.endConversion c).tiles = s.tiles ∧
    (s.endConversion c).jobs = s.jobs ∧ (s.endConversion c).plan = s.plan ∧
    (s.endConversion c).frame = s.frame ∧ (s.endConversion c).scan = s.scan ∧
    (s.endConversion c).power = s.power ∧ (s.endConversion c).completions = s.completions ∧
    (s.endConversion c).posters = s.posters := by
  unfold State.endConversion; (try dsimp only); (repeat' split) <;> simp

@[simp] theorem riseOfPgood_frame (s : State) :
    (s.riseOfPgood).pending = s.pending ∧ (s.riseOfPgood).phase = s.phase ∧
    (s.riseOfPgood).freeIndex = s.freeIndex ∧ (s.riseOfPgood).bus = s.bus ∧ (s.riseOfPgood).config = s.config ∧
    (s.riseOfPgood).eventMask = s.eventMask ∧ (s.riseOfPgood).image = s.image ∧ (s.riseOfPgood).load = s.load ∧
    (s.riseOfPgood).store = s.store ∧ (s.riseOfPgood).slots = s.slots ∧ (s.riseOfPgood).tiles = s.tiles ∧
    (s.riseOfPgood).jobs = s.jobs ∧ (s.riseOfPgood).plan = s.plan ∧ (s.riseOfPgood).frame = s.frame ∧
    (s.riseOfPgood).scan = s.scan ∧ (s.riseOfPgood).temp = s.temp ∧
    (s.riseOfPgood).completions = s.completions ∧ (s.riseOfPgood).posters = s.posters := by
  unfold State.riseOfPgood; (try dsimp only); (repeat' split) <;> simp

@[simp] theorem fallOfPgood_frame (s : State) :
    (s.fallOfPgood).pending = s.pending ∧ (s.fallOfPgood).phase = s.phase ∧
    (s.fallOfPgood).freeIndex = s.freeIndex ∧ (s.fallOfPgood).bus = s.bus ∧ (s.fallOfPgood).config = s.config ∧
    (s.fallOfPgood).eventMask = s.eventMask ∧ (s.fallOfPgood).image = s.image ∧ (s.fallOfPgood).load = s.load ∧
    (s.fallOfPgood).store = s.store ∧ (s.fallOfPgood).frame = s.frame ∧ (s.fallOfPgood).scan = s.scan ∧
    (s.fallOfPgood).temp = s.temp := by
  unfold State.fallOfPgood; (try dsimp only); (repeat' split) <;> simp

@[simp] theorem expireRise_frame (s : State) :
    (s.expireRise).pending = s.pending ∧ (s.expireRise).phase = s.phase ∧
    (s.expireRise).freeIndex = s.freeIndex ∧ (s.expireRise).pgood = s.pgood ∧ (s.expireRise).bus = s.bus ∧
    (s.expireRise).config = s.config ∧ (s.expireRise).eventMask = s.eventMask ∧
    (s.expireRise).image = s.image ∧ (s.expireRise).load = s.load ∧ (s.expireRise).store = s.store ∧
    (s.expireRise).queue = s.queue ∧ (s.expireRise).dispatcher = s.dispatcher ∧
    (s.expireRise).slots = s.slots ∧ (s.expireRise).tiles = s.tiles ∧ (s.expireRise).jobs = s.jobs ∧
    (s.expireRise).plan = s.plan ∧ (s.expireRise).frame = s.frame ∧ (s.expireRise).scan = s.scan ∧
    (s.expireRise).temp = s.temp ∧ (s.expireRise).completions = s.completions ∧
    (s.expireRise).posters = s.posters := by
  unfold State.expireRise; (try dsimp only); (repeat' split) <;> simp

@[simp] theorem expireFall_frame (s : State) :
    (s.expireFall).pending = s.pending ∧ (s.expireFall).phase = s.phase ∧
    (s.expireFall).freeIndex = s.freeIndex ∧ (s.expireFall).pgood = s.pgood ∧ (s.expireFall).bus = s.bus ∧
    (s.expireFall).config = s.config ∧ (s.expireFall).eventMask = s.eventMask ∧
    (s.expireFall).image = s.image ∧ (s.expireFall).load = s.load ∧ (s.expireFall).store = s.store ∧
    (s.expireFall).slots = s.slots ∧ (s.expireFall).tiles = s.tiles ∧ (s.expireFall).jobs = s.jobs ∧
    (s.expireFall).plan = s.plan ∧ (s.expireFall).frame = s.frame ∧ (s.expireFall).scan = s.scan ∧
    (s.expireFall).temp = s.temp ∧ (s.expireFall).completions = s.completions ∧
    (s.expireFall).posters = s.posters := by
  unfold State.expireFall; (try dsimp only); (repeat' split) <;> simp

@[simp] theorem expireFrameTimer_frame (s : State) (o : FrameOrder) :
    (s.expireFrameTimer o).pending = s.pending ∧ (s.expireFrameTimer o).phase = s.phase ∧
    (s.expireFrameTimer o).freeIndex = s.freeIndex ∧ (s.expireFrameTimer o).pgood = s.pgood ∧
    (s.expireFrameTimer o).bus = s.bus ∧ (s.expireFrameTimer o).config = s.config ∧
    (s.expireFrameTimer o).events = s.events ∧ (s.expireFrameTimer o).eventMask = s.eventMask ∧
    (s.expireFrameTimer o).image = s.image ∧ (s.expireFrameTimer o).load = s.load ∧
    (s.expireFrameTimer o).store = s.store ∧ (s.expireFrameTimer o).queue = s.queue ∧
    (s.expireFrameTimer o).dispatcher = s.dispatcher ∧ (s.expireFrameTimer o).tiles = s.tiles ∧
    (s.expireFrameTimer o).completions = s.completions ∧ (s.expireFrameTimer o).posters = s.posters := by
  unfold State.expireFrameTimer; (try dsimp only); (repeat' split) <;> simp

@[simp] theorem scanEnds_frame (s : State) (o : FrameOrder) :
    (s.scanEnds o).pending = s.pending ∧ (s.scanEnds o).phase = s.phase ∧
    (s.scanEnds o).freeIndex = s.freeIndex ∧ (s.scanEnds o).pgood = s.pgood ∧ (s.scanEnds o).bus = s.bus ∧
    (s.scanEnds o).config = s.config ∧ (s.scanEnds o).eventMask = s.eventMask ∧
    (s.scanEnds o).image = s.image ∧ (s.scanEnds o).load = s.load ∧ (s.scanEnds o).store = s.store ∧
    (s.scanEnds o).queue = s.queue ∧ (s.scanEnds o).dispatcher = s.dispatcher ∧
    (s.scanEnds o).tiles = s.tiles ∧ (s.scanEnds o).completions = s.completions ∧
    (s.scanEnds o).posters = s.posters := by
  unfold State.scanEnds; (try dsimp only); (repeat' split) <;> simp

@[simp] theorem reachIdle_frame (s : State) (o : FrameOrder) :
    (s.reachIdle o).pending = s.pending ∧ (s.reachIdle o).phase = s.phase ∧
    (s.reachIdle o).freeIndex = s.freeIndex ∧ (s.reachIdle o).pgood = s.pgood ∧ (s.reachIdle o).bus = s.bus ∧
    (s.reachIdle o).config = s.config ∧ (s.reachIdle o).eventMask = s.eventMask ∧
    (s.reachIdle o).image = s.image ∧ (s.reachIdle o).load = s.load ∧ (s.reachIdle o).store = s.store ∧
    (s.reachIdle o).queue = s.queue ∧ (s.reachIdle o).dispatcher = s.dispatcher ∧
    (s.reachIdle o).tiles = s.tiles ∧ (s.reachIdle o).completions = s.completions ∧
    (s.reachIdle o).posters = s.posters := by
  unfold State.reachIdle; (try dsimp only); (repeat' split) <;> simp

@[simp] theorem reachDischarge_frame (s : State) :
    (s.reachDischarge).pending = s.pending ∧ (s.reachDischarge).phase = s.phase ∧
    (s.reachDischarge).freeIndex = s.freeIndex ∧ (s.reachDischarge).pgood = s.pgood ∧
    (s.reachDischarge).bus = s.bus ∧ (s.reachDischarge).config = s.config ∧
    (s.reachDischarge).eventMask = s.eventMask ∧ (s.reachDischarge).image = s.image ∧
    (s.reachDischarge).load = s.load ∧ (s.reachDischarge).store = s.store ∧
    (s.reachDischarge).queue = s.queue ∧ (s.reachDischarge).dispatcher = s.dispatcher ∧
    (s.reachDischarge).tiles = s.tiles ∧ (s.reachDischarge).completions = s.completions ∧
    (s.reachDischarge).posters = s.posters := by
  unfold State.reachDischarge; (try dsimp only); (repeat' split) <;> simp

@[simp] theorem reachPeriod_frame (s : State) (o : FrameOrder) :
    (s.reachPeriod o).pending = s.pending ∧ (s.reachPeriod o).phase = s.phase ∧
    (s.reachPeriod o).freeIndex = s.freeIndex ∧ (s.reachPeriod o).pgood = s.pgood ∧
    (s.reachPeriod o).bus = s.bus ∧ (s.reachPeriod o).config = s.config ∧
    (s.reachPeriod o).eventMask = s.eventMask ∧ (s.reachPeriod o).image = s.image ∧
    (s.reachPeriod o).load = s.load ∧ (s.reachPeriod o).store = s.store ∧ (s.reachPeriod o).queue = s.queue ∧
    (s.reachPeriod o).dispatcher = s.dispatcher ∧ (s.reachPeriod o).tiles = s.tiles ∧
    (s.reachPeriod o).completions = s.completions ∧ (s.reachPeriod o).posters = s.posters := by
  unfold State.reachPeriod; (try dsimp only); (repeat' split) <;> simp

@[simp] theorem writeControl_frame (s : State) (w : Word) :
    (s.writeControl w).pending = s.pending ∧ (s.writeControl w).phase = s.phase ∧
    (s.writeControl w).freeIndex = s.freeIndex ∧ (s.writeControl w).pgood = s.pgood ∧
    (s.writeControl w).config = s.config ∧ (s.writeControl w).events = s.events ∧
    (s.writeControl w).eventMask = s.eventMask ∧ (s.writeControl w).image = s.image ∧
    (s.writeControl w).load = s.load ∧ (s.writeControl w).store = s.store ∧
    (s.writeControl w).slots = s.slots ∧ (s.writeControl w).tiles = s.tiles ∧
    (s.writeControl w).jobs = s.jobs ∧ (s.writeControl w).plan = s.plan ∧ (s.writeControl w).frame = s.frame ∧
    (s.writeControl w).scan = s.scan ∧ (s.writeControl w).power = s.power ∧ (s.writeControl w).temp = s.temp ∧
    (s.writeControl w).completions = s.completions ∧ (s.writeControl w).posters = s.posters := by
  unfold State.writeControl; (try dsimp only); (repeat' split) <;> simp

@[simp] theorem writePolicy_frame (s : State) (w : Word) :
    (s.writePolicy w).pending = s.pending ∧ (s.writePolicy w).phase = s.phase ∧
    (s.writePolicy w).freeIndex = s.freeIndex ∧ (s.writePolicy w).pgood = s.pgood ∧
    (s.writePolicy w).bus = s.bus ∧ (s.writePolicy w).events = s.events ∧
    (s.writePolicy w).eventMask = s.eventMask ∧ (s.writePolicy w).image = s.image ∧
    (s.writePolicy w).load = s.load ∧ (s.writePolicy w).store = s.store ∧ (s.writePolicy w).slots = s.slots ∧
    (s.writePolicy w).tiles = s.tiles ∧ (s.writePolicy w).jobs = s.jobs ∧ (s.writePolicy w).plan = s.plan ∧
    (s.writePolicy w).frame = s.frame ∧ (s.writePolicy w).scan = s.scan ∧ (s.writePolicy w).power = s.power ∧
    (s.writePolicy w).temp = s.temp ∧ (s.writePolicy w).completions = s.completions ∧
    (s.writePolicy w).posters = s.posters := by
  unfold State.writePolicy; (try dsimp only); (repeat' split) <;> simp

@[simp] theorem writeMask_frame (s : State) (w : Word) :
    (s.writeMask w).pending = s.pending ∧ (s.writeMask w).phase = s.phase ∧
    (s.writeMask w).freeIndex = s.freeIndex ∧ (s.writeMask w).pgood = s.pgood ∧ (s.writeMask w).bus = s.bus ∧
    (s.writeMask w).config = s.config ∧ (s.writeMask w).events = s.events ∧ (s.writeMask w).image = s.image ∧
    (s.writeMask w).load = s.load ∧ (s.writeMask w).store = s.store ∧ (s.writeMask w).queue = s.queue ∧
    (s.writeMask w).dispatcher = s.dispatcher ∧ (s.writeMask w).slots = s.slots ∧
    (s.writeMask w).tiles = s.tiles ∧ (s.writeMask w).jobs = s.jobs ∧ (s.writeMask w).plan = s.plan ∧
    (s.writeMask w).frame = s.frame ∧ (s.writeMask w).scan = s.scan ∧ (s.writeMask w).power = s.power ∧
    (s.writeMask w).temp = s.temp ∧ (s.writeMask w).completions = s.completions ∧
    (s.writeMask w).posters = s.posters := by
  unfold State.writeMask; (try dsimp only); (repeat' split) <;> simp

@[simp] theorem takeGeometry_frame (s : State) (a : PanelAxis) (v : Nat) :
    (s.takeGeometry a v).pending = s.pending ∧ (s.takeGeometry a v).phase = s.phase ∧
    (s.takeGeometry a v).freeIndex = s.freeIndex ∧ (s.takeGeometry a v).pgood = s.pgood ∧
    (s.takeGeometry a v).bus = s.bus ∧ (s.takeGeometry a v).events = s.events ∧
    (s.takeGeometry a v).eventMask = s.eventMask ∧ (s.takeGeometry a v).image = s.image ∧
    (s.takeGeometry a v).load = s.load ∧ (s.takeGeometry a v).store = s.store ∧
    (s.takeGeometry a v).queue = s.queue ∧ (s.takeGeometry a v).dispatcher = s.dispatcher ∧
    (s.takeGeometry a v).slots = s.slots ∧ (s.takeGeometry a v).jobs = s.jobs ∧
    (s.takeGeometry a v).plan = s.plan ∧ (s.takeGeometry a v).frame = s.frame ∧
    (s.takeGeometry a v).scan = s.scan ∧ (s.takeGeometry a v).power = s.power ∧
    (s.takeGeometry a v).temp = s.temp ∧ (s.takeGeometry a v).completions = s.completions ∧
    (s.takeGeometry a v).posters = s.posters := by
  unfold State.takeGeometry; (try dsimp only); (repeat' split) <;> simp

@[simp] theorem writeGeometry_frame (s : State) (a : PanelAxis) (w : Word) :
    (s.writeGeometry a w).pending = s.pending ∧ (s.writeGeometry a w).phase = s.phase ∧
    (s.writeGeometry a w).freeIndex = s.freeIndex ∧ (s.writeGeometry a w).pgood = s.pgood ∧
    (s.writeGeometry a w).events = s.events ∧ (s.writeGeometry a w).eventMask = s.eventMask ∧
    (s.writeGeometry a w).image = s.image ∧ (s.writeGeometry a w).load = s.load ∧
    (s.writeGeometry a w).store = s.store ∧ (s.writeGeometry a w).queue = s.queue ∧
    (s.writeGeometry a w).dispatcher = s.dispatcher ∧ (s.writeGeometry a w).slots = s.slots ∧
    (s.writeGeometry a w).jobs = s.jobs ∧ (s.writeGeometry a w).plan = s.plan ∧
    (s.writeGeometry a w).frame = s.frame ∧ (s.writeGeometry a w).scan = s.scan ∧
    (s.writeGeometry a w).power = s.power ∧ (s.writeGeometry a w).temp = s.temp ∧
    (s.writeGeometry a w).completions = s.completions ∧ (s.writeGeometry a w).posters = s.posters := by
  unfold State.writeGeometry; (try dsimp only); (repeat' split) <;> simp

@[simp] theorem writePlain_frame (s : State) (r : Reg) (w : Word) :
    (s.writePlain r w).pending = s.pending ∧ (s.writePlain r w).phase = s.phase ∧
    (s.writePlain r w).freeIndex = s.freeIndex ∧ (s.writePlain r w).pgood = s.pgood ∧
    (s.writePlain r w).events = s.events ∧ (s.writePlain r w).eventMask = s.eventMask ∧
    (s.writePlain r w).image = s.image ∧ (s.writePlain r w).load = s.load ∧
    (s.writePlain r w).store = s.store ∧ (s.writePlain r w).queue = s.queue ∧
    (s.writePlain r w).dispatcher = s.dispatcher ∧ (s.writePlain r w).slots = s.slots ∧
    (s.writePlain r w).tiles = s.tiles ∧ (s.writePlain r w).jobs = s.jobs ∧ (s.writePlain r w).plan = s.plan ∧
    (s.writePlain r w).frame = s.frame ∧ (s.writePlain r w).scan = s.scan ∧
    (s.writePlain r w).power = s.power ∧ (s.writePlain r w).temp = s.temp ∧
    (s.writePlain r w).completions = s.completions ∧ (s.writePlain r w).posters = s.posters := by
  cases r <;> simp [State.writePlain]

@[simp] theorem readStatus_frame (s : State) :
    (s.readStatus).pending = s.pending ∧ (s.readStatus).phase = s.phase ∧
    (s.readStatus).freeIndex = s.freeIndex ∧ (s.readStatus).pgood = s.pgood ∧
    (s.readStatus).config = s.config ∧ (s.readStatus).events = s.events ∧
    (s.readStatus).eventMask = s.eventMask ∧ (s.readStatus).image = s.image ∧ (s.readStatus).load = s.load ∧
    (s.readStatus).store = s.store ∧ (s.readStatus).queue = s.queue ∧
    (s.readStatus).dispatcher = s.dispatcher ∧ (s.readStatus).slots = s.slots ∧
    (s.readStatus).tiles = s.tiles ∧ (s.readStatus).jobs = s.jobs ∧ (s.readStatus).plan = s.plan ∧
    (s.readStatus).frame = s.frame ∧ (s.readStatus).scan = s.scan ∧ (s.readStatus).power = s.power ∧
    (s.readStatus).temp = s.temp ∧ (s.readStatus).completions = s.completions ∧
    (s.readStatus).posters = s.posters := by
  unfold State.readStatus; (try dsimp only); (repeat' split) <;> simp

@[simp] theorem softReset_frame (s : State) :
    (s.softReset).pending = s.pending ∧ (s.softReset).phase = s.phase ∧ (s.softReset).freeIndex = s.freeIndex ∧
    (s.softReset).pgood = s.pgood ∧ (s.softReset).bus = s.bus ∧ (s.softReset).config = s.config ∧
    (s.softReset).eventMask = s.eventMask ∧ (s.softReset).image = s.image := by
  simp [State.softReset]

@[simp] theorem submit_frame (s : State) :
    (s.submit.1).pending = s.pending ∧ (s.submit.1).phase = s.phase ∧ (s.submit.1).freeIndex = s.freeIndex ∧
    (s.submit.1).pgood = s.pgood ∧ (s.submit.1).bus = s.bus ∧ (s.submit.1).config = s.config ∧
    (s.submit.1).events = s.events ∧ (s.submit.1).eventMask = s.eventMask ∧ (s.submit.1).image = s.image ∧
    (s.submit.1).load = s.load ∧ (s.submit.1).store = s.store ∧ (s.submit.1).slots = s.slots ∧
    (s.submit.1).tiles = s.tiles ∧ (s.submit.1).jobs = s.jobs ∧ (s.submit.1).plan = s.plan ∧
    (s.submit.1).frame = s.frame ∧ (s.submit.1).scan = s.scan ∧ (s.submit.1).power = s.power ∧
    (s.submit.1).temp = s.temp ∧ (s.submit.1).completions = s.completions ∧ (s.submit.1).posters = s.posters := by
  unfold State.submit State.offerRequest; split <;> simp

@[simp] theorem cancel_frame (s : State) :
    (s.cancel.1).pending = s.pending ∧ (s.cancel.1).phase = s.phase ∧ (s.cancel.1).freeIndex = s.freeIndex ∧
    (s.cancel.1).pgood = s.pgood ∧ (s.cancel.1).bus = s.bus ∧ (s.cancel.1).config = s.config ∧
    (s.cancel.1).eventMask = s.eventMask ∧ (s.cancel.1).image = s.image ∧ (s.cancel.1).store = s.store ∧
    (s.cancel.1).frame = s.frame ∧ (s.cancel.1).scan = s.scan ∧ (s.cancel.1).power = s.power ∧
    (s.cancel.1).temp = s.temp := by
  unfold State.cancel State.cancelTag; (repeat' split) <;> simp

@[simp] theorem cancelAll_frame (s : State) :
    (s.cancelAll.1).pending = s.pending ∧ (s.cancelAll.1).phase = s.phase ∧
    (s.cancelAll.1).freeIndex = s.freeIndex ∧ (s.cancelAll.1).pgood = s.pgood ∧ (s.cancelAll.1).bus = s.bus ∧
    (s.cancelAll.1).config = s.config ∧ (s.cancelAll.1).eventMask = s.eventMask ∧
    (s.cancelAll.1).image = s.image ∧ (s.cancelAll.1).store = s.store ∧ (s.cancelAll.1).frame = s.frame ∧
    (s.cancelAll.1).scan = s.scan ∧ (s.cancelAll.1).power = s.power ∧ (s.cancelAll.1).temp = s.temp := by
  unfold State.cancelAll; dsimp only; split <;> simp

@[simp] theorem popRecord_frame (s : State) :
    (s.popRecord.1).pending = s.pending ∧ (s.popRecord.1).phase = s.phase ∧
    (s.popRecord.1).freeIndex = s.freeIndex ∧ (s.popRecord.1).pgood = s.pgood ∧ (s.popRecord.1).bus = s.bus ∧
    (s.popRecord.1).config = s.config ∧ (s.popRecord.1).eventMask = s.eventMask ∧
    (s.popRecord.1).image = s.image ∧ (s.popRecord.1).store = s.store ∧ (s.popRecord.1).jobs = s.jobs ∧
    (s.popRecord.1).plan = s.plan ∧ (s.popRecord.1).frame = s.frame ∧ (s.popRecord.1).scan = s.scan ∧
    (s.popRecord.1).power = s.power ∧ (s.popRecord.1).temp = s.temp := by
  unfold State.popRecord; (try dsimp only); (repeat' split) <;> simp

@[simp] theorem loadOpen_frame (s : State) :
    (s.loadOpen.1).pending = s.pending ∧ (s.loadOpen.1).phase = s.phase ∧
    (s.loadOpen.1).freeIndex = s.freeIndex ∧ (s.loadOpen.1).pgood = s.pgood ∧ (s.loadOpen.1).bus = s.bus ∧
    (s.loadOpen.1).config = s.config ∧ (s.loadOpen.1).events = s.events ∧
    (s.loadOpen.1).eventMask = s.eventMask ∧ (s.loadOpen.1).image = s.image ∧ (s.loadOpen.1).store = s.store ∧
    (s.loadOpen.1).queue = s.queue ∧ (s.loadOpen.1).dispatcher = s.dispatcher ∧
    (s.loadOpen.1).slots = s.slots ∧ (s.loadOpen.1).tiles = s.tiles ∧ (s.loadOpen.1).jobs = s.jobs ∧
    (s.loadOpen.1).plan = s.plan ∧ (s.loadOpen.1).frame = s.frame ∧ (s.loadOpen.1).scan = s.scan ∧
    (s.loadOpen.1).power = s.power ∧ (s.loadOpen.1).temp = s.temp ∧
    (s.loadOpen.1).completions = s.completions ∧ (s.loadOpen.1).posters = s.posters := by
  unfold State.loadOpen; (try dsimp only); (repeat' split) <;> simp

@[simp] theorem loadClose_frame (s : State) :
    (s.loadClose.1).pending = s.pending ∧ (s.loadClose.1).phase = s.phase ∧
    (s.loadClose.1).freeIndex = s.freeIndex ∧ (s.loadClose.1).pgood = s.pgood ∧ (s.loadClose.1).bus = s.bus ∧
    (s.loadClose.1).config = s.config ∧ (s.loadClose.1).eventMask = s.eventMask ∧
    (s.loadClose.1).image = s.image ∧ (s.loadClose.1).store = s.store ∧ (s.loadClose.1).queue = s.queue ∧
    (s.loadClose.1).dispatcher = s.dispatcher ∧ (s.loadClose.1).slots = s.slots ∧
    (s.loadClose.1).tiles = s.tiles ∧ (s.loadClose.1).jobs = s.jobs ∧ (s.loadClose.1).plan = s.plan ∧
    (s.loadClose.1).frame = s.frame ∧ (s.loadClose.1).scan = s.scan ∧ (s.loadClose.1).power = s.power ∧
    (s.loadClose.1).temp = s.temp ∧ (s.loadClose.1).completions = s.completions ∧
    (s.loadClose.1).posters = s.posters := by
  unfold State.loadClose; (try dsimp only); (repeat' split) <;> simp

@[simp] theorem startFill_frame (s : State) :
    (s.startFill.1).pending = s.pending ∧ (s.startFill.1).phase = s.phase ∧
    (s.startFill.1).freeIndex = s.freeIndex ∧ (s.startFill.1).pgood = s.pgood ∧ (s.startFill.1).bus = s.bus ∧
    (s.startFill.1).config = s.config ∧ (s.startFill.1).events = s.events ∧
    (s.startFill.1).eventMask = s.eventMask ∧ (s.startFill.1).image = s.image ∧
    (s.startFill.1).store = s.store ∧ (s.startFill.1).queue = s.queue ∧
    (s.startFill.1).dispatcher = s.dispatcher ∧ (s.startFill.1).slots = s.slots ∧
    (s.startFill.1).tiles = s.tiles ∧ (s.startFill.1).jobs = s.jobs ∧ (s.startFill.1).plan = s.plan ∧
    (s.startFill.1).frame = s.frame ∧ (s.startFill.1).scan = s.scan ∧ (s.startFill.1).power = s.power ∧
    (s.startFill.1).temp = s.temp ∧ (s.startFill.1).completions = s.completions ∧
    (s.startFill.1).posters = s.posters := by
  unfold State.startFill; (try dsimp only); (repeat' split) <;> simp

@[simp] theorem tileSet_frame (s : State) :
    (s.tileSet.1).pending = s.pending ∧ (s.tileSet.1).phase = s.phase ∧ (s.tileSet.1).freeIndex = s.freeIndex ∧
    (s.tileSet.1).pgood = s.pgood ∧ (s.tileSet.1).bus = s.bus ∧ (s.tileSet.1).config = s.config ∧
    (s.tileSet.1).events = s.events ∧ (s.tileSet.1).eventMask = s.eventMask ∧ (s.tileSet.1).image = s.image ∧
    (s.tileSet.1).load = s.load ∧ (s.tileSet.1).store = s.store ∧ (s.tileSet.1).slots = s.slots ∧
    (s.tileSet.1).jobs = s.jobs ∧ (s.tileSet.1).plan = s.plan ∧ (s.tileSet.1).frame = s.frame ∧
    (s.tileSet.1).scan = s.scan ∧ (s.tileSet.1).power = s.power ∧ (s.tileSet.1).temp = s.temp ∧
    (s.tileSet.1).completions = s.completions ∧ (s.tileSet.1).posters = s.posters := by
  unfold State.tileSet; dsimp only; (repeat' split) <;> simp

@[simp] theorem modeCheck_frame (s : State) :
    (s.modeCheck.1).pending = s.pending ∧ (s.modeCheck.1).phase = s.phase ∧
    (s.modeCheck.1).freeIndex = s.freeIndex ∧ (s.modeCheck.1).pgood = s.pgood ∧ (s.modeCheck.1).bus = s.bus ∧
    (s.modeCheck.1).config = s.config ∧ (s.modeCheck.1).events = s.events ∧
    (s.modeCheck.1).eventMask = s.eventMask ∧ (s.modeCheck.1).image = s.image ∧ (s.modeCheck.1).load = s.load ∧
    (s.modeCheck.1).queue = s.queue ∧ (s.modeCheck.1).dispatcher = s.dispatcher ∧
    (s.modeCheck.1).slots = s.slots ∧ (s.modeCheck.1).tiles = s.tiles ∧ (s.modeCheck.1).jobs = s.jobs ∧
    (s.modeCheck.1).plan = s.plan ∧ (s.modeCheck.1).frame = s.frame ∧ (s.modeCheck.1).scan = s.scan ∧
    (s.modeCheck.1).power = s.power ∧ (s.modeCheck.1).temp = s.temp ∧
    (s.modeCheck.1).completions = s.completions ∧ (s.modeCheck.1).posters = s.posters := by
  unfold State.modeCheck; (try dsimp only); (repeat' split) <;> simp

@[simp] theorem modeErase_frame (s : State) :
    (s.modeErase.1).pending = s.pending ∧ (s.modeErase.1).phase = s.phase ∧
    (s.modeErase.1).freeIndex = s.freeIndex ∧ (s.modeErase.1).pgood = s.pgood ∧ (s.modeErase.1).bus = s.bus ∧
    (s.modeErase.1).config = s.config ∧ (s.modeErase.1).events = s.events ∧
    (s.modeErase.1).eventMask = s.eventMask ∧ (s.modeErase.1).image = s.image ∧ (s.modeErase.1).load = s.load ∧
    (s.modeErase.1).queue = s.queue ∧ (s.modeErase.1).dispatcher = s.dispatcher ∧
    (s.modeErase.1).slots = s.slots ∧ (s.modeErase.1).tiles = s.tiles ∧ (s.modeErase.1).jobs = s.jobs ∧
    (s.modeErase.1).plan = s.plan ∧ (s.modeErase.1).frame = s.frame ∧ (s.modeErase.1).scan = s.scan ∧
    (s.modeErase.1).power = s.power ∧ (s.modeErase.1).temp = s.temp ∧
    (s.modeErase.1).completions = s.completions ∧ (s.modeErase.1).posters = s.posters := by
  unfold State.modeErase; (try dsimp only); (repeat' split) <;> simp

@[simp] theorem powerUp_frame (s : State) :
    (s.powerUp.1).pending = s.pending ∧ (s.powerUp.1).phase = s.phase ∧ (s.powerUp.1).freeIndex = s.freeIndex ∧
    (s.powerUp.1).pgood = s.pgood ∧ (s.powerUp.1).bus = s.bus ∧ (s.powerUp.1).config = s.config ∧
    (s.powerUp.1).eventMask = s.eventMask ∧ (s.powerUp.1).image = s.image ∧ (s.powerUp.1).load = s.load ∧
    (s.powerUp.1).store = s.store ∧ (s.powerUp.1).slots = s.slots ∧ (s.powerUp.1).tiles = s.tiles ∧
    (s.powerUp.1).jobs = s.jobs ∧ (s.powerUp.1).plan = s.plan ∧ (s.powerUp.1).frame = s.frame ∧
    (s.powerUp.1).scan = s.scan ∧ (s.powerUp.1).temp = s.temp ∧ (s.powerUp.1).completions = s.completions ∧
    (s.powerUp.1).posters = s.posters := by
  unfold State.powerUp; (try dsimp only); (repeat' split) <;> simp

@[simp] theorem powerDown_frame (s : State) :
    (s.powerDown.1).pending = s.pending ∧ (s.powerDown.1).phase = s.phase ∧
    (s.powerDown.1).freeIndex = s.freeIndex ∧ (s.powerDown.1).pgood = s.pgood ∧ (s.powerDown.1).bus = s.bus ∧
    (s.powerDown.1).config = s.config ∧ (s.powerDown.1).events = s.events ∧
    (s.powerDown.1).eventMask = s.eventMask ∧ (s.powerDown.1).image = s.image ∧ (s.powerDown.1).load = s.load ∧
    (s.powerDown.1).store = s.store ∧ (s.powerDown.1).queue = s.queue ∧
    (s.powerDown.1).dispatcher = s.dispatcher ∧ (s.powerDown.1).slots = s.slots ∧
    (s.powerDown.1).tiles = s.tiles ∧ (s.powerDown.1).jobs = s.jobs ∧ (s.powerDown.1).plan = s.plan ∧
    (s.powerDown.1).frame = s.frame ∧ (s.powerDown.1).scan = s.scan ∧ (s.powerDown.1).temp = s.temp ∧
    (s.powerDown.1).completions = s.completions ∧ (s.powerDown.1).posters = s.posters := by
  unfold State.powerDown; (try dsimp only); (repeat' split) <;> simp

@[simp] theorem clearFault_frame (s : State) :
    (s.clearFault.1).pending = s.pending ∧ (s.clearFault.1).phase = s.phase ∧
    (s.clearFault.1).freeIndex = s.freeIndex ∧ (s.clearFault.1).pgood = s.pgood ∧
    (s.clearFault.1).bus = s.bus ∧ (s.clearFault.1).config = s.config ∧ (s.clearFault.1).events = s.events ∧
    (s.clearFault.1).eventMask = s.eventMask ∧ (s.clearFault.1).image = s.image ∧
    (s.clearFault.1).load = s.load ∧ (s.clearFault.1).store = s.store ∧ (s.clearFault.1).slots = s.slots ∧
    (s.clearFault.1).tiles = s.tiles ∧ (s.clearFault.1).jobs = s.jobs ∧ (s.clearFault.1).plan = s.plan ∧
    (s.clearFault.1).frame = s.frame ∧ (s.clearFault.1).scan = s.scan ∧ (s.clearFault.1).temp = s.temp ∧
    (s.clearFault.1).completions = s.completions ∧ (s.clearFault.1).posters = s.posters := by
  unfold State.clearFault; (try dsimp only); (repeat' split) <;> simp

@[simp] theorem sampleTemp_frame (s : State) :
    (s.sampleTemp.1).pending = s.pending ∧ (s.sampleTemp.1).phase = s.phase ∧
    (s.sampleTemp.1).freeIndex = s.freeIndex ∧ (s.sampleTemp.1).pgood = s.pgood ∧
    (s.sampleTemp.1).bus = s.bus ∧ (s.sampleTemp.1).config = s.config ∧ (s.sampleTemp.1).events = s.events ∧
    (s.sampleTemp.1).eventMask = s.eventMask ∧ (s.sampleTemp.1).image = s.image ∧
    (s.sampleTemp.1).load = s.load ∧ (s.sampleTemp.1).store = s.store ∧ (s.sampleTemp.1).queue = s.queue ∧
    (s.sampleTemp.1).dispatcher = s.dispatcher ∧ (s.sampleTemp.1).slots = s.slots ∧
    (s.sampleTemp.1).tiles = s.tiles ∧ (s.sampleTemp.1).jobs = s.jobs ∧ (s.sampleTemp.1).plan = s.plan ∧
    (s.sampleTemp.1).frame = s.frame ∧ (s.sampleTemp.1).scan = s.scan ∧ (s.sampleTemp.1).power = s.power ∧
    (s.sampleTemp.1).completions = s.completions ∧ (s.sampleTemp.1).posters = s.posters := by
  unfold State.sampleTemp; (try dsimp only); (repeat' split) <;> simp

@[simp] theorem noCommand_frame (s : State) :
    (s.noCommand.1).pending = s.pending ∧ (s.noCommand.1).phase = s.phase ∧
    (s.noCommand.1).freeIndex = s.freeIndex ∧ (s.noCommand.1).pgood = s.pgood ∧ (s.noCommand.1).bus = s.bus ∧
    (s.noCommand.1).config = s.config ∧ (s.noCommand.1).events = s.events ∧
    (s.noCommand.1).eventMask = s.eventMask ∧ (s.noCommand.1).image = s.image ∧ (s.noCommand.1).load = s.load ∧
    (s.noCommand.1).store = s.store ∧ (s.noCommand.1).queue = s.queue ∧
    (s.noCommand.1).dispatcher = s.dispatcher ∧ (s.noCommand.1).slots = s.slots ∧
    (s.noCommand.1).tiles = s.tiles ∧ (s.noCommand.1).jobs = s.jobs ∧ (s.noCommand.1).plan = s.plan ∧
    (s.noCommand.1).frame = s.frame ∧ (s.noCommand.1).scan = s.scan ∧ (s.noCommand.1).power = s.power ∧
    (s.noCommand.1).temp = s.temp ∧ (s.noCommand.1).completions = s.completions ∧
    (s.noCommand.1).posters = s.posters := by
  simp [State.noCommand]

@[simp] theorem commandEffect_frame (s : State) (code : Word) :
    ((s.commandEffect code).1).pending = s.pending ∧ ((s.commandEffect code).1).phase = s.phase ∧
    ((s.commandEffect code).1).freeIndex = s.freeIndex ∧ ((s.commandEffect code).1).pgood = s.pgood ∧
    ((s.commandEffect code).1).bus = s.bus ∧ ((s.commandEffect code).1).config = s.config ∧
    ((s.commandEffect code).1).eventMask = s.eventMask ∧ ((s.commandEffect code).1).image = s.image := by
  unfold State.commandEffect; (try dsimp only); (repeat' split) <;> simp

@[simp] theorem writeRegister_frame (s : State) (r : Reg) (w : Word) :
    (s.writeRegister r w).pending = s.pending ∧ (s.writeRegister r w).phase = s.phase ∧
    (s.writeRegister r w).freeIndex = s.freeIndex ∧ (s.writeRegister r w).pgood = s.pgood ∧
    (s.writeRegister r w).image = s.image := by
  cases r <;> simp [State.writeRegister, State.commanded]

end Sys2Proof.Machine
end

