-- ==== Sys2Proof/Laws/Steps.lean ====
section
/-! SUPPORT. What one step can do, said once: the ways an access or an event reaches the part, and what
`State.settle` leaves. Proofs about every command start from `exec_shape`. -/

namespace Sys2Proof.Machine

/-! ### The ways in -/

theorem access_running {s : State} (h : s.phase = .running) (hs : s.bus.stretched = none) (f : State → State) :
    s.access f = (f s).settle := by
  simp [State.access, h, hs]

theorem readAccess_running {s : State} (h : s.phase = .running) (hs : s.bus.stretched = none) (f : State → State) :
    s.readAccess f = (f s).settle := by
  simp [State.readAccess, h, hs]

theorem event_running {s : State} (h : s.phase = .running) (f : State → State) : s.event f = (f s).settle := by
  simp [State.event, h]

theorem pinEvent_running {s : State} (h : s.phase = .running) (b : Bool) (f : State → State) :
    s.pinEvent b f = (f s).settle := by
  simp [State.pinEvent, h]

theorem command_running {s : State} (h : s.phase = .running) (hs : s.bus.stretched = none) (code : Word)
    (f : State → State × Result) : s.command code f = (s.commanded code f).settle := by
  simp [State.command, State.access, h, hs]

/-- The effect of a command or event in a running part that takes it, before what follows in the same step. -/
def State.effect (s : State) : Instr → State
  | .submit => s.commanded 0x01 State.submit
  | .cancel => s.commanded 0x02 State.cancel
  | .cancelAll => s.commanded 0x03 State.cancelAll
  | .pop => s.commanded 0x04 State.popRecord
  | .loadOpen => s.commanded 0x05 State.loadOpen
  | .loadClose => s.commanded 0x06 State.loadClose
  | .fill => s.commanded 0x07 State.startFill
  | .tileSet => s.commanded 0x08 State.tileSet
  | .modeCheck => s.commanded 0x09 State.modeCheck
  | .modeErase => s.commanded 0x0A State.modeErase
  | .powerUp => s.commanded 0x0B State.powerUp
  | .powerDown => s.commanded 0x0C State.powerDown
  | .clearFault => s.commanded 0x0D State.clearFault
  | .sampleTemp => s.commanded 0x0E State.sampleTemp
  | .softReset => s.commanded 0x0F fun s => (s.softReset, .accepted)
  | .unknownCommand code => s.commanded code State.noCommand
  | .loadDataWrite _ w => s.writeStream w
  | .loadDataRead _ => s.readStream
  | .stretchedWriteComplete => s.endStretchedWrite
  | .stretchedReadComplete => s.endStretchedRead
  | .tableDataWrite w => s.tablePortWrite w
  | .bandTableWrite w => s.tablePortWrite w
  | .readOnlySpaceWrite w => s.tablePortWrite w
  | .tableDataRead => s.tablePortRead
  | .statusRead => s.readStatus
  | .eventWrite w => s.clearFlags w
  | .eventMaskWrite w => s.writeMask w
  | .panelGeometryWrite a w => s.writeGeometry a w
  | .policyWrite w => s.writePolicy w
  | .controlWrite w => s.writeControl w
  | .registerWrite r w => s.writeRegister r w
  | .pgoodRise => s.riseOfPgood
  | .pgoodFall => s.fallOfPgood
  | .frameTimerExpiry o => s.expireFrameTimer o
  | .frameStart o => s.frameStart o
  | .scanEnd o => s.scanEnds o
  | .riseTimerExpiry => s.expireRise
  | .fallTimerExpiry => s.expireFall
  | .idleCountReached o => s.reachIdle o
  | .dischargeCountReached => s.reachDischarge
  | .periodicConversionRequest o => s.reachPeriod o
  | .conversionEnd c => s.endConversion c
  | .checkEnd => s.endCheck
  | .quadAccess => s.quadAccess
  | .drainEnd => s.endDrain
  | .fillEnd => s.endFill
  | .snapshotEnd => s.endSnapshot
  | .commitEnd => s.endCommit
  | .entryExamination => s.examineNext
  | .autoPresentationRetry => s.presentAgain
  | .vddApplied => s.applyVdd
  | .pinReset => s.pinReset
  | .resetRelease => s.releaseReset
  | .busAccessInReset a => s.accessInReset a

/-- How a command or event reaches the part: a write access, a read access, an event of a block, or the PGOOD pin;
`none` for the pins that act on the part as a whole. -/
inductive Route where
  | write | read | event | pin (level : Bool)

def route : Instr → Option Route
  | .vddApplied | .pinReset | .resetRelease | .busAccessInReset _ => none
  | .loadDataRead _ | .tableDataRead | .statusRead => some .read
  | .pgoodRise => some (.pin true)
  | .pgoodFall => some (.pin false)
  | .stretchedWriteComplete | .stretchedReadComplete | .frameTimerExpiry _ | .frameStart _ | .scanEnd _
  | .riseTimerExpiry | .fallTimerExpiry | .idleCountReached _ | .dischargeCountReached
  | .periodicConversionRequest _ | .conversionEnd _ | .checkEnd | .quadAccess | .drainEnd | .fillEnd
  | .snapshotEnd | .commitEnd | .entryExamination | .autoPresentationRetry => some .event
  | .submit | .cancel | .cancelAll | .pop | .loadOpen | .loadClose | .fill | .tileSet | .modeCheck | .modeErase
  | .powerUp | .powerDown | .clearFault | .sampleTemp | .softReset | .unknownCommand _ | .loadDataWrite _ _
  | .tableDataWrite _ | .bandTableWrite _ | .readOnlySpaceWrite _ | .eventWrite _ | .eventMaskWrite _
  | .panelGeometryWrite _ _ | .policyWrite _ | .controlWrite _ | .registerWrite _ _ => some .write

/-- An effect that reaches the part by a route. -/
def State.through (s : State) (f : State → State) : Route → State
  | .write => s.access f
  | .read => s.readAccess f
  | .event => s.event f
  | .pin b => s.pinEvent b f

theorem exec_of_no_route {c : Instr} (s : State) (h : route c = none) : exec c s = .next (s.effect c) := by
  cases c <;> first | rfl | simp [route] at h

/-- Every command or event with a route is its effect, reaching the part by that route. -/
theorem exec_shape {c : Instr} {r : Route} (s : State) (h : route c = some r) :
    exec c s = .next (s.through (fun s => s.effect c) r) := by
  cases c <;> simp only [route, Option.some.injEq, reduceCtorEq] at h <;> subst h <;> rfl

theorem through_running {s : State} (h : s.phase = .running) (hs : s.bus.stretched = none) (f : State → State)
    (r : Route) : s.through f r = (f s).settle := by
  cases r <;> simp [State.through, State.access, State.readAccess, State.event, State.pinEvent, h, hs]

/-- In a running part that takes the command, its effect and then what follows in the same step. -/
theorem exec_running {c : Instr} {s : State} (hc : route c ≠ none) (h : s.phase = .running)
    (hs : s.bus.stretched = none) : exec c s = .next (s.effect c).settle := by
  obtain ⟨r, hr⟩ := Option.ne_none_iff_exists'.mp hc
  rw [exec_shape s hr, through_running h hs]

/-- An event is taken whether or not an access is being stretched. -/
theorem exec_running_event {c : Instr} {s : State} (hc : route c = some .event) (h : s.phase = .running) :
    exec c s = .next (s.effect c).settle := by
  rw [exec_shape s hc]
  simp [State.through, State.event, h]

/-- What a step answers, whatever the command and the state: a reset's effect, the effect of a command taken by a
running part and what follows, or one of the ways a command is not taken. -/
theorem exec_cases (c : Instr) (s : State) :
    (route c = none ∧ exec c s = .next (s.effect c))
      ∨ (s.phase = .running ∧ route c ≠ none ∧ exec c s = .next (s.effect c).settle)
      ∨ exec c s = .next s
      ∨ exec c s = .next { s with bus := { s.bus with busData := 0 } }
      ∨ (s.phase = .inReset ∧ ∃ b, exec c s = .next { s with pgood := b })
      ∨ (s.phase = .undefined ∧ exec c s = .next s.redraw)
      ∨ (s.phase = .undefined ∧ ∃ b, exec c s = .next { s.redraw with pgood := b }) := by
  cases hr : route c with
  | none => exact .inl ⟨rfl, exec_of_no_route s hr⟩
  | some r =>
    rw [exec_shape s hr]
    cases hp : s.phase <;> cases r <;> by_cases hst : s.bus.stretched.isSome = true <;>
      simp only [State.through, State.access, State.readAccess, State.event, State.pinEvent, hp]
    all_goals simp [hst]

/-! ### What settling leaves -/

theorem dischargeIfDue_of_settled {s : State} (h : s.settled = true) : s.dischargeIfDue = s := by
  unfold State.dischargeIfDue
  rw [if_neg]
  rintro ⟨h1, h2, h3⟩
  simp [State.settled, h1, h2] at h
  simp [h] at h3

theorem stopScanIfLeft_of_settled {s : State} (h : s.settled = true) : s.stopScanIfLeft = s := by
  unfold State.stopScanIfLeft
  split
  · rfl
  · rename_i sc hsc
    rw [if_pos]
    simp [State.settled, hsc] at h
    exact h.1.2

theorem endPassIfDone_of_settled {s : State} (h : s.settled = true) : s.endPassIfDone = s := by
  unfold State.endPassIfDone
  rw [if_neg]
  intro hc
  simp only [State.settled, Bool.and_eq_true, Bool.or_eq_true, Bool.not_eq_true'] at h hc
  rcases h.2 with h2 | h2
  · rw [h2] at hc; cases hc.1
  · rw [h2] at hc; cases hc.2

/-- A state with nothing left over is as it is at the end of a step. -/
theorem settle_of_settled {s : State} (h : s.settled = true) : s.settle = s := by
  unfold State.settle
  rw [dischargeIfDue_of_settled h, stopScanIfLeft_of_settled h, endPassIfDone_of_settled h]

/-- Until a power-down waits, the end of a step does not start a discharge. -/
theorem dischargeIfDue_of_downPending {s : State} (h : s.power.downPending = false) : s.dischargeIfDue = s := by
  simp [State.dischargeIfDue, h]

theorem dischargeIfDue_of_not_on {s : State} (h : s.power.state ≠ .on) : s.dischargeIfDue = s := by
  simp [State.dischargeIfDue, h]

theorem stopScanIfLeft_of_none {s : State} (h : s.scan = none) : s.stopScanIfLeft = s := by
  simp [State.stopScanIfLeft, h]

theorem stopScanIfLeft_of_home {s : State} {sc : Scan} (h : s.scan = some sc) (hk : sc.kind.home = s.power.state) :
    s.stopScanIfLeft = s := by
  simp [State.stopScanIfLeft, h, hk]

/-! ### The end of a step leaves nothing over -/

/-- No discharge waits on down-pending. -/
def State.noneDue (s : State) : Prop :=
  ¬(s.power.state = .on ∧ s.power.downPending = true ∧ s.anyActive = false)

/-- The scan in progress, if any, is in the state it began in. -/
def State.scanHome (s : State) : Prop := ∀ sc, s.scan = some sc → sc.kind.home = s.power.state

theorem settled_iff (s : State) :
    s.settled = true ↔
      s.noneDue ∧ s.scanHome ∧ (s.dispatcher.passInProgress = true → s.queue.any Entry.toExamine = true) := by
  unfold State.settled State.noneDue State.scanHome
  cases s.scan <;> cases s.power.downPending <;> cases s.anyActive <;> cases s.dispatcher.passInProgress <;>
    simp [and_assoc]

theorem noneDue_dischargeIfDue (s : State) : s.dischargeIfDue.noneDue := by
  unfold State.noneDue State.dischargeIfDue
  split
  · simp [State.enterDischarging]
  · rename_i h; simpa using h

theorem noneDue_powerFrame {s : State} (h : s.noneDue) : s.powerFrame.noneDue := by
  unfold State.powerFrame
  split
  · rename_i hs
    dsimp only
    split
    · simp [State.noneDue, State.enterDischarging]
    · simpa [State.noneDue, State.anyActive, State.slot] using h
  · split
    · simp [State.noneDue, State.enterFalling]
    · exact h
  all_goals exact h

theorem noneDue_regionFrame {s : State} : s.regionFrame.noneDue := by
  unfold State.regionFrame
  split
  · exact noneDue_dischargeIfDue _
  · simp [State.noneDue, *]

/-- A frame start delivered with no scan in progress leaves nothing over but a pass. -/
theorem deliverFrame_home {s : State} (h : s.scan = none) :
    (s.deliverFrame .regionFirst).noneDue ∧ (s.deliverFrame .regionFirst).scanHome := by
  have hn : ∀ u : State, u.noneDue → u.scan = none → u.scanFrame.noneDue ∧ u.scanFrame.scanHome := by
    intro u hu hs
    unfold State.scanFrame
    split
    · split
      · exact ⟨hu, by simp [State.scanHome, hs]⟩
      · rename_i hp _
        exact ⟨by simpa [State.noneDue, State.anyActive, State.slot] using hu,
          by simp [State.scanHome, ScanKind.home, hp]⟩
    · rename_i hp
      exact ⟨by simp [State.noneDue, hp], by simp [State.scanHome, ScanKind.home, hp]⟩
    all_goals exact ⟨hu, by simp [State.scanHome, hs]⟩
  exact hn _ (noneDue_powerFrame noneDue_regionFrame) (by simpa using h)

theorem stopScanIfLeft_home {s : State} (h : s.noneDue) : s.stopScanIfLeft.noneDue ∧ s.stopScanIfLeft.scanHome := by
  unfold State.stopScanIfLeft
  split
  · exact ⟨h, by simp [State.scanHome, *]⟩
  · rename_i sc hsc
    split
    · exact ⟨h, by intro sc' h'; simp_all⟩
    · unfold State.endScan
      dsimp only
      split
      · exact deliverFrame_home (by simp)
      · exact ⟨by simpa [State.noneDue, State.anyActive, State.slot] using h, by simp [State.scanHome]⟩

theorem endPassIfDone_done (s : State) :
    s.endPassIfDone.dispatcher.passInProgress = true → s.endPassIfDone.queue.any Entry.toExamine = true := by
  unfold State.endPassIfDone
  split
  · split
    · rename_i h
      simp only [Bool.and_eq_true, List.any_eq_true] at h
      obtain ⟨e, he, hw⟩ := h.2
      intro _
      simp only [State.markDue, List.any_map, List.any_eq_true]
      exact ⟨e, he, by simpa [Entry.toExamine] using hw⟩
    · simp
  · rename_i h
    simpa using h

/-- The end of a step leaves nothing over. -/
theorem settled_settle (s : State) : s.settle.settled = true := by
  obtain ⟨h1, h2⟩ := stopScanIfLeft_home (noneDue_dischargeIfDue s)
  refine (settled_iff _).mpr ⟨?_, ?_, endPassIfDone_done _⟩
  · simpa [State.settle, State.noneDue, State.anyActive, State.slot] using h1
  · simpa [State.settle, State.scanHome] using h2

theorem settle_settle (s : State) : s.settle.settle = s.settle := settle_of_settled (settled_settle s)

end Sys2Proof.Machine
end

