-- ==== Sys2Proof/Laws/Stores.lean ====
section
/-! SUPPORT. Reading after writing, and the canonical form, for the sparse stores, the planes, the waveform tables, the
slots, the modes and the tile map. -/

namespace Sys2Proof.Machine

/-! ### Sparse stores -/

theorem Sparse.find_write {α : Type} (m : Sparse α) (a b : Nat) (v : α) :
    Sparse.find (Sparse.write m a v) b = if b = a then some v else Sparse.find m b := by
  induction m with
  | nil => by_cases h : b = a <;> simp [Sparse.write, Sparse.find, h]
  | cons p t ih =>
    obtain ⟨k, u⟩ := p
    unfold Sparse.write
    split
    · rename_i hlt
      by_cases h : b = a
      · simp [Sparse.find, h]
      · have : b < a → b < k := fun hb => by omega
        have : b < a → b ≠ k := fun hb => by omega
        by_cases hb : b < a <;> simp_all [Sparse.find]
    · split
      · rename_i hk
        subst hk
        by_cases h : b = a <;> simp [Sparse.find, h]
      · rename_i h1 h2
        by_cases h : b = a
        · subst h
          simp only [Sparse.find, ih, if_true]
          rw [if_neg h2, if_neg h1]
        · simp only [Sparse.find, ih, if_neg h]

theorem Sparse.wfFrom_mono {α : Type} {lo lo' : Nat} {m : Sparse α} (h : lo' ≤ lo) (hm : Sparse.wfFrom lo m = true) :
    Sparse.wfFrom lo' m = true := by
  cases m with
  | nil => rfl
  | cons p t =>
    simp only [Sparse.wfFrom, Bool.and_eq_true, decide_eq_true_eq] at hm ⊢
    exact ⟨by omega, hm.2⟩

theorem Sparse.wfFrom_write {α : Type} (m : Sparse α) (lo a : Nat) (v : α) (ha : lo ≤ a)
    (hm : Sparse.wfFrom lo m = true) : Sparse.wfFrom lo (Sparse.write m a v) = true := by
  induction m generalizing lo with
  | nil => simp [Sparse.write, Sparse.wfFrom, ha]
  | cons p t ih =>
    obtain ⟨k, u⟩ := p
    simp only [Sparse.wfFrom, Bool.and_eq_true, decide_eq_true_eq] at hm
    unfold Sparse.write
    split
    · simp only [Sparse.wfFrom, Bool.and_eq_true, decide_eq_true_eq]
      exact ⟨ha, by omega, hm.2⟩
    · split
      · rename_i h1 h2
        subst h2
        simp only [Sparse.wfFrom, Bool.and_eq_true, decide_eq_true_eq]
        exact ⟨ha, hm.2⟩
      · simp only [Sparse.wfFrom, Bool.and_eq_true, decide_eq_true_eq]
        exact ⟨hm.1, ih _ (by omega) hm.2⟩

/-- A write keeps the canonical form. -/
theorem Sparse.wf_write {α : Type} {m : Sparse α} (a : Nat) (v : α) (hm : m.wf = true) :
    (Sparse.write m a v).wf = true :=
  Sparse.wfFrom_write m 0 a v (Nat.zero_le a) hm

/-! ### Planes -/

@[simp] theorem ImageMemory.plane_setPlane (m : ImageMemory) (p q : Plane) (st : Sparse Level) :
    (m.setPlane p st).plane q = if q = p then st else m.plane q := by
  cases p <;> cases q <;> rfl

theorem pixelAddress_inj {x y x' y' : Nat} (hx : x < 1024) (hx' : x' < 1024) :
    pixelAddress x y = pixelAddress x' y' ↔ x = x' ∧ y = y' := by
  simp only [pixelAddress, Config.planeColumns]
  omega

theorem pixel_of_image {s t : State} (hi : t.image = s.image) (hf : t.freeIndex = s.freeIndex) (p : Plane) (x y : Nat) :
    t.pixel p x y = s.pixel p x y := by
  simp [State.pixel, hi, hf]

/-- A pixel read after a pixel write. -/
theorem pixel_writePixel (s : State) (p q : Plane) (x y x' y' : Nat) (l : Level) (hx : x < 1024) (hx' : x' < 1024) :
    (s.writePixel p x y l).pixel q x' y' = if q = p ∧ x' = x ∧ y' = y then l else s.pixel q x' y' := by
  have hinj := pixelAddress_inj (y := y') (y' := y) hx' hx
  simp only [State.pixel, State.writePixel, ImageMemory.plane_setPlane]
  by_cases hq : q = p
  · subst hq
    simp only [if_true, Sparse.find_write, hinj, true_and]
    split <;> simp
  · simp [hq]

/-! ### The canonical form of the planes -/

theorem storesCanonical_writePixel {s : State} (h : s.storesCanonical = true) (p : Plane) (x y : Nat) (l : Level) :
    (s.writePixel p x y l).storesCanonical = true := by
  simp only [State.storesCanonical, Bool.and_eq_true] at h
  obtain ⟨⟨⟨⟨ht, hc⟩, hf⟩, hp⟩, hr⟩ := h
  cases p <;>
    simp [State.storesCanonical, State.writePixel, ImageMemory.setPlane, ImageMemory.plane, Sparse.wf_write, *]

/-- A quad write keeps the canonical form. -/
theorem storesCanonical_writePixels {s : State} (h : s.storesCanonical = true) (p : Plane) (y : Nat)
    (ls : List (Nat × Level)) : (s.writePixels p y ls).storesCanonical = true := by
  induction ls generalizing s with
  | nil => exact h
  | cons c t ih => exact ih (storesCanonical_writePixel h p c.1 y c.2)

/-- A write of the Load Engine keeps the canonical form. -/
theorem storesCanonical_writeTarget {s : State} (h : s.storesCanonical = true) (ls : List ((Nat × Nat) × Level)) :
    (s.writeTarget ls).storesCanonical = true := by
  induction ls generalizing s with
  | nil => exact h
  | cons c t ih => exact ih (storesCanonical_writePixel h .target c.1.1 c.1.2 c.2)

/-! ### Slots, modes and entries -/

@[simp] theorem slot_setSlot (s : State) (n m : Fin 16) (sl : Slot) :
    (s.setSlot n sl).slot m = if m = n then sl else s.slot m := by
  simp only [State.slot, State.setSlot, Fin.getElem_fin, Vector.getElem_set]
  by_cases h : m = n
  · subst h; simp
  · have : ¬n.val = m.val := fun h' => h (Fin.ext h'.symm)
    simp [h, this]

@[simp] theorem mode_setMode (s : State) (n m : Fin 8) (d : Descriptor) :
    (s.setMode n d).mode m = if m = n then d else s.mode m := by
  simp only [State.mode, State.setMode, Fin.getElem_fin, Vector.getElem_set]
  by_cases h : m = n
  · subst h; simp
  · have : ¬n.val = m.val := fun h' => h (Fin.ext h'.symm)
    simp [h, this]

theorem slot_of_slots {s t : State} (h : t.slots = s.slots) (n : Fin 16) : t.slot n = s.slot n := by
  simp [State.slot, h]

theorem mode_of_store {s t : State} (h : t.store = s.store) (m : Fin 8) : t.mode m = s.mode m := by
  simp [State.mode, h]

theorem mem_slotNumbers (n : Fin 16) : n ∈ slotNumbers := by
  fin_cases n <;> decide

theorem mem_modeNumbers (m : Fin 8) : m ∈ modeNumbers := by
  fin_cases m <;> decide

/-- Some slot is STARTING or DRIVING, said of one slot. -/
theorem anyActive_iff (s : State) : s.anyActive = true ↔ ∃ n, (s.slot n).active = true := by
  simp [State.anyActive, mem_slotNumbers]

theorem anyActive_of_slots {s t : State} (h : t.slots = s.slots) : t.anyActive = s.anyActive := by
  simp [State.anyActive, slot_of_slots h]

/-- The mode being checked is a mode in CHECKING. -/
theorem checking_isSome_iff (s : State) : s.checking.isSome = true ↔ ∃ m, (s.mode m).state = .checking := by
  simp [State.checking, List.find?_isSome, mem_modeNumbers]

/-! ### The tile map -/

@[simp] theorem length_mapTiles (f : Nat → Tile → Tile) (k : Nat) (ts : List Tile) :
    (mapTiles f k ts).length = ts.length := by
  induction ts generalizing k with
  | nil => rfl
  | cons t ts ih => simp [mapTiles, ih]

@[simp] theorem getElem?_mapTiles (f : Nat → Tile → Tile) (k : Nat) (ts : List Tile) (i : Nat) :
    (mapTiles f k ts)[i]? = ts[i]?.map (f (k + i)) := by
  induction ts generalizing k i with
  | nil => simp [mapTiles]
  | cons t ts ih =>
    cases i with
    | zero => simp [mapTiles]
    | succ i => simp [mapTiles, ih, Nat.add_assoc, Nat.add_comm 1]

theorem anyTile_iff (f : Nat → Tile → Bool) (k : Nat) (ts : List Tile) :
    anyTile f k ts = true ↔ ∃ i t, ts[i]? = some t ∧ f (k + i) t = true := by
  induction ts generalizing k with
  | nil => simp [anyTile]
  | cons t ts ih =>
    simp only [anyTile, Bool.or_eq_true, ih]
    constructor
    · rintro (h | ⟨i, u, hu, hf⟩)
      · exact ⟨0, t, by simp, by simpa using h⟩
      · exact ⟨i + 1, u, by simpa using hu, by simpa [Nat.add_assoc, Nat.add_comm 1] using hf⟩
    · rintro ⟨i, u, hu, hf⟩
      cases i with
      | zero => simp at hu; subst hu; exact .inl (by simpa using hf)
      | succ i => exact .inr ⟨i, u, by simpa using hu, by simpa [Nat.add_assoc, Nat.add_comm 1] using hf⟩

/-- One record after the claim set of a rectangle is rewritten. -/
theorem tiles_updateClaimed (s : State) (r : Rect) (f : Nat → Tile → Tile) (k : Nat) :
    (s.updateClaimed r f).tiles[k]? =
      s.tiles[k]?.map fun t => if r.claims s.config.panelW k = true then f k t else t := by
  simp [State.updateClaimed]

/-- Some record of a claim set meets a test, said of one record. -/
theorem anyClaimed_iff (s : State) (r : Rect) (f : Tile → Bool) :
    s.anyClaimed r f = true ↔
      ∃ k t, s.tiles[k]? = some t ∧ r.claims s.config.panelW k = true ∧ f t = true := by
  simp [State.anyClaimed, anyTile_iff]

/-- One record after a release. -/
theorem tiles_releaseTiles (s : State) (n : Fin 16) (k : Nat) :
    (s.releaseTiles n).tiles[k]? =
      s.tiles[k]?.map fun t => if t.owner = some n then { t with owner := none } else t := by
  simp [State.releaseTiles]

/-! ### Event flags -/

/-- A raising sets its flag and no other (R149). -/
theorem flag_raise (s : State) (e f : Event) : (s.raise e).flag f = (decide (f = e) || s.flag f) := by
  cases e <;> cases f <;> simp [State.flag, State.raise, Event.place]

end Sys2Proof.Machine
end

