-- ==== Sys2Proof/Laws/Arbiter.lean ====
section
/-! SUPPORT. The scan's reads at the memory port, and what the ends of jobs, drains, fills and stretched accesses serve
before they end: one lemma per case of `State.serveLoad` and `State.serveJob`. -/

namespace Sys2Proof.Machine

/-! ### The scan reads that wait (R6, R7) -/

/-- A pixel is driven by the slot in the plan that owns its tile and whose rectangle holds it (R114). -/
theorem driverOf_isSome_iff (s : State) (x y : Nat) :
    (s.driverOf x y).isSome = true ↔
      ∃ n p, s.ownerAt x y = some n ∧ s.planOf n = some p ∧ p.rect.contains x y = true := by
  unfold State.driverOf
  split
  · simp_all
  · split
    · simp_all
    · split <;> simp_all

/-- The quad found is the first driven one of those looked at. -/
theorem nextDrivenQuad_iff (s : State) (y fuel a q : Nat) :
    s.nextDrivenQuad y fuel a = some q ↔
      a ≤ q ∧ q < a + fuel ∧ s.quadDriven q y = true ∧ ∀ q', a ≤ q' → q' < q → s.quadDriven q' y = false := by
  induction fuel generalizing a with
  | zero =>
    simp only [State.nextDrivenQuad]
    constructor
    · intro h; cases h
    · rintro ⟨h1, h2, -⟩; omega
  | succ n ih =>
    unfold State.nextDrivenQuad
    split
    · rename_i h
      constructor
      · intro h'
        cases h'
        exact ⟨le_refl _, by omega, h, by intros; omega⟩
      · rintro ⟨h1, -, -, h4⟩
        rcases Nat.lt_or_ge a q with hlt | hge
        · rw [h4 a (le_refl _) hlt] at h
          cases h
        · rw [le_antisymm h1 hge]
    · rename_i h
      rw [ih]
      constructor
      · rintro ⟨h1, h2, h3, h4⟩
        refine ⟨by omega, by omega, h3, fun q' h5 h6 => ?_⟩
        by_cases he : q' = a
        · subst he
          simpa using h
        · exact h4 q' (by omega) h6
      · rintro ⟨h1, h2, h3, h4⟩
        have : q ≠ a := by
          rintro rfl
          exact h h3
        exact ⟨by omega, by omega, h3, fun q' h5 h6 => h4 q' (by omega) h6⟩

/-- Where no scan read waits, serving them changes nothing. -/
theorem serveScanReads_of_none {s : State} (h : ∀ sc, s.scan = some sc → s.scanQuad sc = none) :
    s.serveScanReads = s := by
  unfold State.serveScanReads
  split
  · rfl
  · rename_i sc hsc
    rw [h sc hsc]

/-- Where one waits, the whole row is formed. -/
theorem serveScanReads_of_some {s : State} {sc : Scan} {yq : Nat × Nat} (h : s.scan = some sc)
    (hq : s.scanQuad sc = some yq) :
    s.serveScanReads = { s with scan := some { sc with formed := s.nextRow sc, fromRead := none } } := by
  simp only [State.serveScanReads, h, hq]

theorem length_formRest (s : State) (y fuel q : Nat) : (s.formRest y fuel q).length = 4 * fuel := by
  induction fuel generalizing q with
  | zero => rfl
  | succ n ih => simp only [State.formRest, State.formQuad, List.length_append, List.length_cons, List.length_nil, ih]; omega

/-- A row formed to its end leaves no quad to read. -/
theorem scanQuad_of_formed {s : State} {sc : Scan} (h : sc.w / 4 ≤ sc.formed.length / 4) : s.scanQuad sc = none := by
  have h0 : sc.w / 4 - sc.formed.length / 4 = 0 := by omega
  unfold State.scanQuad
  split
  · rfl
  · rw [h0]
    rfl

/-- Once the waiting scan reads have been served, none waits. -/
theorem scanQuad_serveScanReads (s : State) (sc : Scan) (h : s.serveScanReads.scan = some sc) :
    s.serveScanReads.scanQuad sc = none := by
  by_cases hn : ∀ sc, s.scan = some sc → s.scanQuad sc = none
  · rw [serveScanReads_of_none hn] at h ⊢
    exact hn sc h
  · push Not at hn
    obtain ⟨sc', hsc, hq⟩ := hn
    obtain ⟨yq, hyq⟩ := Option.ne_none_iff_exists'.mp hq
    rw [serveScanReads_of_some hsc hyq] at h
    cases h
    refine scanQuad_of_formed ?_
    have hr : ∃ y, sc'.readRow = some y := by
      unfold State.scanQuad at hyq
      split at hyq
      · cases hyq
      · exact ⟨_, ‹_›⟩
    obtain ⟨y, hy⟩ := hr
    have hl : (s.nextRow sc').length = sc'.formed.length + 4 * (sc'.w / 4 - sc'.formed.length / 4) := by
      simp [State.nextRow, hy, length_formRest]
    dsimp only
    omega

/-- The kind of the scan in progress is as it was. -/
theorem kind_serveScanReads (s : State) : s.serveScanReads.scan.map Scan.kind = s.scan.map Scan.kind := by
  unfold State.serveScanReads
  split
  · rfl
  · split
    · rfl
    · simp_all

theorem settled_serveScanReads (s : State) : s.serveScanReads.settled = s.settled := by
  have h := kind_serveScanReads s
  simp only [State.settled, State.anyActive, State.slot, serveScanReads_frame]
  cases hs : s.scan <;> cases ht : s.serveScanReads.scan <;> simp_all

/-! ### What an end serves first (log 7) -/

theorem serveLoad_of_stop {s : State} {stop : LoadEngine → Bool} (h : stop s.load = true) (n : Nat) :
    s.serveLoad stop n = s := by
  simp [State.serveLoad, h]

theorem serveLoad_of_jobs {s : State} (h : s.jobs ≠ []) (stop : LoadEngine → Bool) (n : Nat) :
    s.serveLoad stop n = s := by
  simp [State.serveLoad, h]

theorem serveLoad_of_needed {s : State} {stop : LoadEngine → Bool} (h : stop s.load = false) (hj : s.jobs = [])
    (n : Nat) : s.serveLoad stop n = State.loadAccessesUntil stop n s.serveScanReads := by
  simp [State.serveLoad, h, hj]

theorem serveJob_of_needed {s : State} {j : Job} {rest : List Job} (h : s.jobs = j :: rest)
    (hq : j.quadsDone < (s.slot j.slot).rect.quads) :
    s.serveJob = State.jobAccesses (2 * ((s.slot j.slot).rect.quads - j.quadsDone)) s.serveScanReads := by
  simp [State.serveJob, h, hq]

theorem serveJob_of_done {s : State} {j : Job} {rest : List Job} (h : s.jobs = j :: rest)
    (hq : (s.slot j.slot).rect.quads ≤ j.quadsDone) : s.serveJob = s := by
  simp [State.serveJob, h, Nat.not_lt.mpr hq]

end Sys2Proof.Machine
end

