-- ==== Sys2Proof/Laws/Commands.lean ====
section
/-! SUPPORT. A command's effect does not look at COMMAND: writing the code first and the result last is the same as
writing both after the effect. Each command's step as its effect, then its answer. -/

namespace Sys2Proof.Machine

/-- The bus registers replaced. -/
def State.withBus (s : State) (b : BusInterface) : State := { s with bus := b }

theorem startPass_withBus (s : State) (b : BusInterface) : (s.withBus b).startPass = s.startPass.withBus b := by
  unfold State.startPass State.withBus
  dsimp only
  split <;> rfl

theorem addRecord_withBus (s : State) (b : BusInterface) (r : Record) (n : Bool) :
    (s.withBus b).addRecord r n = (s.addRecord r n).withBus b := by
  unfold State.addRecord State.withBus
  dsimp only
  split <;> rfl

theorem removeEntry_withBus (s : State) (b : BusInterface) (i : Nat) :
    (s.withBus b).removeEntry i = (s.removeEntry i).withBus b := by
  have h1 : (s.withBus b).queue = s.queue := rfl
  have h2 : (s.withBus b).load = s.load := rfl
  by_cases hq : s.queue.length = Config.queuePlaces ∧ (s.queue.eraseIdx i).length + 1 = Config.queuePlaces
  · by_cases hl : s.load.state = .autoPending <;>
      simp [State.removeEntry, h1, h2, hq, hl] <;> rfl
  · simp [State.removeEntry, h1, hq]
    rfl

theorem takeSlotPost_withBus (s : State) (b : BusInterface) (n : Fin 16) :
    (s.withBus b).takeSlotPost n = (s.takeSlotPost n).withBus b := by
  have h : (s.withBus b).slot n = s.slot n := rfl
  unfold State.takeSlotPost
  rw [h]
  split
  · rfl
  · rename_i o _
    have h4 : (s.withBus b).frame = s.frame := rfl
    rw [addRecord_withBus, h4]
    exact startPass_withBus (((s.addRecord ((s.slot n).record o s.frame.counter) (s.slot n).notify).releaseTiles
      n).setSlot n Slot.cleared) b

theorem takeEntryPost_withBus (s : State) (b : BusInterface) (t : Tag) :
    (s.withBus b).takeEntryPost t = (s.takeEntryPost t).withBus b := by
  have h1 : (s.withBus b).entryIndex t = s.entryIndex t := rfl
  have h2 : (s.withBus b).awaited t = s.awaited t := rfl
  have h3 : (s.withBus b).queue = s.queue := rfl
  have h4 : (s.withBus b).frame = s.frame := rfl
  unfold State.takeEntryPost
  rw [h1, h2, h3, h4]
  split
  · rfl
  · split
    · rfl
    · dsimp only
      rw [addRecord_withBus, removeEntry_withBus]
      split
      · exact startPass_withBus _ b
      · rfl

theorem takePost_withBus (s : State) (b : BusInterface) (p : Poster) :
    (s.withBus b).takePost p = (s.takePost p).withBus b := by
  cases p
  · exact takeSlotPost_withBus s b _
  · exact takeEntryPost_withBus s b _

theorem offer_withBus (s : State) (b : BusInterface) (p : Poster) :
    (s.withBus b).offer p = (s.offer p).withBus b := by
  have h : (s.withBus b).completions = s.completions := rfl
  unfold State.offer
  rw [h]
  split
  · exact takePost_withBus s b p
  · rfl

theorem endSlot_withBus (s : State) (b : BusInterface) (n : Fin 16) (o : SlotOutcome) :
    (s.withBus b).endSlot n o = (s.endSlot n o).withBus b :=
  offer_withBus (s.setSlot n { s.slot n with state := .ending, outcome := some o }) b _

theorem cutSlot_withBus (s : State) (b : BusInterface) (n : Fin 16) (o : SlotOutcome) :
    (s.withBus b).cutSlot n o = (s.cutSlot n o).withBus b := by
  have h : (s.withBus b).slot n = s.slot n := rfl
  unfold State.cutSlot
  rw [h]
  split
  · exact endSlot_withBus (s.abandonSnapshot n) b n o
  · exact endSlot_withBus ((s.leavePlan n).updateClaimed (s.slot n).rect fun _ t => t.makeUnknown) b n o
  all_goals rfl

theorem cutSlots_withBus (s : State) (b : BusInterface) (o : SlotOutcome) (ns : List (Fin 16)) :
    (s.withBus b).cutSlots o ns = (s.cutSlots o ns).withBus b := by
  induction ns generalizing s with
  | nil => rfl
  | cons n ns ih => simp only [State.cutSlots, cutSlot_withBus, ih]

theorem offerEntries_withBus (s : State) (b : BusInterface) (ts : List Tag) :
    (s.withBus b).offerEntries ts = (s.offerEntries ts).withBus b := by
  induction ts generalizing s with
  | nil => rfl
  | cons t ts ih => simp only [State.offerEntries, offer_withBus, ih]

theorem enterOn_withBus (s : State) (b : BusInterface) : (s.withBus b).enterOn = s.enterOn.withBus b :=
  startPass_withBus (State.raise { s with power := { s.power with
    state := .on, riseTimer := none, idleCount := 0, downPending := false } } .pwr) b

theorem enterRising_withBus (s : State) (b : BusInterface) : (s.withBus b).enterRising = s.enterRising.withBus b := by
  by_cases hp : s.pgood = true
  · have e (u : State) (hu : u.pgood = true) : u.enterRising = State.enterOn { u with power := { u.power with
        state := .rising, riseTimer := some u.config.riseLimit, wakePending := false } } := if_pos hu
    rw [e _ hp, e (s.withBus b) hp]
    exact enterOn_withBus { s with power := { s.power with
      state := .rising, riseTimer := some s.config.riseLimit, wakePending := false } } b
  · have e (u : State) (hu : ¬u.pgood = true) : u.enterRising = { u with power := { u.power with
        state := .rising, riseTimer := some u.config.riseLimit, wakePending := false } } := if_neg hu
    rw [e _ hp, e (s.withBus b) hp]
    rfl

/-- A command whose effect reads only the argument words of the bus and writes none of it: its step is its effect and
then its answer. -/
theorem commanded_eq {s : State} {code : Word} {f : State → State × Result}
    (h : ∀ b : BusInterface, b.args = s.bus.args → f (s.withBus b) = ((f s).1.withBus b, (f s).2))
    (hb : (f s).1.bus = s.bus) : s.commanded code f = (f s).1.answered code (f s).2 := by
  have h' := h { s.bus with command := code } rfl
  simp only [State.withBus] at h'
  simp only [State.commanded, h', State.answered, hb]

theorem commanded_cancel (s : State) : s.commanded 0x02 State.cancel = s.cancel.1.answered 0x02 s.cancel.2 := by
  refine commanded_eq (fun b hb => ?_) (by simp)
  have h1 : (s.withBus b).argTag = s.argTag := by simp [State.argTag, State.arg, State.withBus, hb]
  have h2 : ∀ t, (s.withBus b).entryIndex t = s.entryIndex t := fun _ => rfl
  have h3 : ∀ t, (s.withBus b).slotOfTag t = s.slotOfTag t := fun _ => rfl
  have h4 : (s.withBus b).queue = s.queue := rfl
  have h5 : ∀ n, (s.withBus b).slot n = s.slot n := fun _ => rfl
  unfold State.cancel
  rw [h1]
  unfold State.cancelTag
  rw [h2, h3, h4]
  split
  · rfl
  · split
    · split
      · split
        · rename_i i _ _ _ _ _
          refine Prod.ext ?_ rfl
          have hs : ((s.withBus b).setEntryState i .withdrawn).startPass
              = ((s.setEntryState i .withdrawn).startPass).withBus b :=
            startPass_withBus (s.setEntryState i .withdrawn) b
          simp only [State.withdraw]
          rw [hs, offer_withBus]
        · rfl
      · rfl
    · split
      · rw [h5]
        split
        · exact Prod.ext (cutSlot_withBus s b _ _) rfl
        · rfl
      · rfl

theorem commanded_cancelAll (s : State) :
    s.commanded 0x03 State.cancelAll = s.cancelAll.1.answered 0x03 s.cancelAll.2 := by
  refine commanded_eq (fun b _ => ?_) (by simp)
  have h1 : (s.withBus b).waitingTags = s.waitingTags := rfl
  have h2 : (s.withBus b).withdrawAll = s.withdrawAll.withBus b := rfl
  unfold State.cancelAll
  dsimp only
  rw [h1, h2, offerEntries_withBus, cutSlots_withBus]
  split
  · rfl
  · rw [startPass_withBus]

theorem commanded_pop (s : State) :
    s.commanded 0x04 State.popRecord = s.popRecord.1.answered 0x04 s.popRecord.2 := by
  refine commanded_eq (fun b _ => ?_) (by simp)
  have h1 : (s.withBus b).completions = s.completions := rfl
  have h2 : (s.withBus b).posters = s.posters := rfl
  unfold State.popRecord
  rw [h1, h2]
  split
  · rfl
  · rename_i rest _
    dsimp only
    split
    · rfl
    · rename_i p ps _
      exact Prod.ext (takePost_withBus { s with completions := rest, posters := ps } b p) rfl

theorem commanded_powerUp (s : State) :
    s.commanded 0x0B State.powerUp = s.powerUp.1.answered 0x0B s.powerUp.2 := by
  refine commanded_eq (fun b _ => ?_) (by simp)
  have h1 : (s.withBus b).power = s.power := rfl
  unfold State.powerUp
  rw [h1]
  split
  · exact Prod.ext (enterRising_withBus s b) rfl
  · rfl
  · split
    · exact Prod.ext (startPass_withBus { s with power := { s.power with downPending := false } } b) rfl
    · rfl
  all_goals rfl

theorem commanded_clearFault (s : State) :
    s.commanded 0x0D State.clearFault = s.clearFault.1.answered 0x0D s.clearFault.2 := by
  refine commanded_eq (fun b _ => ?_) (by simp)
  have h1 : (s.withBus b).power = s.power := rfl
  have h2 : (s.withBus b).pgood = s.pgood := rfl
  unfold State.clearFault
  rw [h1, h2]
  split
  · exact Prod.ext (startPass_withBus { s with power := { s.power with state := .off } } b) rfl
  · rfl

theorem commanded_submit (s : State) :
    s.commanded 0x01 State.submit = s.submit.1.answered 0x01 s.submit.2 := by
  refine commanded_eq (fun b hb => ?_) (by simp)
  have h1 : (s.withBus b).argRequest = s.argRequest := by
    simp [State.argRequest, State.argRect, State.arg, State.withBus, hb]
  have h2 : ∀ q, (s.withBus b).checkRequest q = s.checkRequest q := fun _ => rfl
  have h3 : ∀ q, (s.withBus b).acceptRequest q = (s.acceptRequest q).withBus b := by
    intro q
    unfold State.acceptRequest
    split
    · rfl
    · exact startPass_withBus { s with queue := s.queue ++ [s.newEntry q _] } b
  unfold State.submit State.offerRequest
  rw [h1, h2, h3]
  split <;> rfl

theorem commanded_tileSet (s : State) :
    s.commanded 0x08 State.tileSet = s.tileSet.1.answered 0x08 s.tileSet.2 := by
  refine commanded_eq (fun b hb => ?_) (by simp)
  have h1 : (s.withBus b).argRect = s.argRect := by simp [State.argRect, State.arg, State.withBus, hb]
  have h2 : (s.withBus b).arg 4 = s.arg 4 := by simp [State.arg, State.withBus, hb]
  have h3 : (s.withBus b).config = s.config := rfl
  have h4 : (s.withBus b).tiles = s.tiles := rfl
  have h5 : ∀ r f, (s.withBus b).anyClaimed r f = s.anyClaimed r f := fun _ _ => rfl
  have h6 : ∀ r f, (s.withBus b).updateClaimed r f = (s.updateClaimed r f).withBus b := fun _ _ => rfl
  have h7 : ∀ u : State, (u.withBus b).tiles = u.tiles := fun _ => rfl
  unfold State.tileSet
  dsimp only
  rw [h1, h2, h3, h4, h5, h6, h7, startPass_withBus]
  repeat' split
  all_goals rfl

/-- The commands whose effect is one plain update of the state. -/
theorem commanded_plain (s : State) :
    s.commanded 0x05 State.loadOpen = s.loadOpen.1.answered 0x05 s.loadOpen.2
      ∧ s.commanded 0x06 State.loadClose = s.loadClose.1.answered 0x06 s.loadClose.2
      ∧ s.commanded 0x07 State.startFill = s.startFill.1.answered 0x07 s.startFill.2
      ∧ s.commanded 0x09 State.modeCheck = s.modeCheck.1.answered 0x09 s.modeCheck.2
      ∧ s.commanded 0x0A State.modeErase = s.modeErase.1.answered 0x0A s.modeErase.2
      ∧ s.commanded 0x0C State.powerDown = s.powerDown.1.answered 0x0C s.powerDown.2
      ∧ s.commanded 0x0E State.sampleTemp = s.sampleTemp.1.answered 0x0E s.sampleTemp.2
      ∧ (s.commanded 0x0F fun s => (s.softReset, .accepted)) = s.softReset.answered 0x0F .accepted := by
  refine ⟨?_, ?_, ?_, ?_, ?_, ?_, ?_, ?_⟩
  · refine commanded_eq (fun b hb => ?_) (by simp)
    have h1 : (s.withBus b).argRect = s.argRect := by simp [State.argRect, State.arg, State.withBus, hb]
    have h2 : (s.withBus b).arg 4 = s.arg 4 := by simp [State.arg, State.withBus, hb]
    have h3 : (s.withBus b).argTemplate = s.argTemplate := by simp [State.argTemplate, State.arg, State.withBus, hb]
    have h4 : (s.withBus b).argOrientation = s.argOrientation := by
      simp [State.argOrientation, State.arg, State.withBus, hb]
      rfl
    have h5 : (s.withBus b).argPlane = s.argPlane := by simp [State.argPlane, State.arg, State.withBus, hb]
    have h6 : (s.withBus b).load = s.load := rfl
    have h7 : (s.withBus b).config = s.config := rfl
    unfold State.loadOpen
    rw [h1, h2, h3, h4, h5, h6, h7]
    repeat' split
    all_goals rfl
  · refine commanded_eq (fun b hb => ?_) (by simp)
    have h6 : (s.withBus b).load = s.load := rfl
    unfold State.loadClose
    rw [h6]
    repeat' split
    all_goals rfl
  · refine commanded_eq (fun b hb => ?_) (by simp)
    have h1 : (s.withBus b).argRect = s.argRect := by simp [State.argRect, State.arg, State.withBus, hb]
    have h2 : (s.withBus b).arg 4 = s.arg 4 := by simp [State.arg, State.withBus, hb]
    have h3 : (s.withBus b).argTemplate = s.argTemplate := by simp [State.argTemplate, State.arg, State.withBus, hb]
    have h6 : (s.withBus b).load = s.load := rfl
    have h7 : (s.withBus b).config = s.config := rfl
    unfold State.startFill
    rw [h1, h2, h3, h6, h7]
    repeat' split
    all_goals rfl
  · refine commanded_eq (fun b hb => ?_) (by simp)
    have h1 : (s.withBus b).argMode = s.argMode := by
      simp [State.argMode, State.arg, State.withBus, hb]
      rfl
    have h2 : (s.withBus b).arg 1 = s.arg 1 := by simp [State.arg, State.withBus, hb]
    have h3 : ∀ m, (s.withBus b).inUse m = s.inUse m := fun _ => rfl
    have h4 : (s.withBus b).checking = s.checking := rfl
    unfold State.modeCheck
    rw [h1, h2, h4]
    simp only [h3]
    repeat' split
    all_goals rfl
  · refine commanded_eq (fun b hb => ?_) (by simp)
    have h1 : (s.withBus b).argMode = s.argMode := by
      simp [State.argMode, State.arg, State.withBus, hb]
      rfl
    have h3 : ∀ m, (s.withBus b).inUse m = s.inUse m := fun _ => rfl
    have h4 : ∀ m, (s.withBus b).mode m = s.mode m := fun _ => rfl
    unfold State.modeErase
    rw [h1]
    simp only [h3, h4]
    repeat' split
    all_goals rfl
  · refine commanded_eq (fun b hb => ?_) (by simp)
    have h1 : (s.withBus b).power = s.power := rfl
    unfold State.powerDown
    rw [h1]
    split <;> rfl
  · refine commanded_eq (fun b hb => ?_) (by simp)
    have h1 : (s.withBus b).temp = s.temp := rfl
    unfold State.sampleTemp
    rw [h1]
    split <;> rfl
  · rfl

/-! ### The word written to COMMAND, and the classification of a code -/

/-- A code that names no command has no effect (R154). -/
theorem commandEffect_unassigned {code : Word} (s : State) (h : code.toNat = 0 ∨ 16 ≤ code.toNat) :
    s.commandEffect code = (s, .unknownCommand) := by
  unfold State.commandEffect
  split <;> first | omega | rfl

/-- The reason is BAND_TABLE_BAD where the table is malformed, and only there (R138). -/
theorem classify_bandTableBad_iff (t : TempUnit) (code : Nat) :
    (t.classify code).2 = .bandTableBad ↔ t.tableGood = false := by
  unfold TempUnit.classify
  split
  · simp_all
  · split
    · simp_all
    · split <;> simp_all

end Sys2Proof.Machine
end

