-- ==== Sys2Proof/Tests/Slice0.lean ====
section
/-! SUPPORT. Tests: the ill-formed terms, the manual's worked examples, one or two steps of every command and event on
small states, and a state that meets the hypotheses of each statement that has some. -/

namespace Sys2Proof.Tests

open Sys2Proof Sys2Proof.Machine

set_option Elab.async false

/-! ### Small states -/

/-- The state after a command. -/
def after (c : Instr) (s : State) : State :=
  match exec c s with
  | .next t => t
  | .fault _ => s
  | .refused _ => s

/-- The state after one step. -/
def stepped (s : State) : State :=
  match step s with
  | .next t => t
  | .fault _ => s
  | .refused _ => s

/-- The argument words. -/
def withArgs (s : State) (a : Vector Nat 6) : State :=
  { s with bus := { s.bus with args := a.map (BitVec.ofNat 16) } }

/-- The table index. -/
def atTable (s : State) (space off : Nat) : State :=
  { s with bus := { s.bus with tableSpace := BitVec.ofNat 3 space, tableOffset := BitVec.ofNat 20 off } }

/-- After reset, with a panel of 64 by 64 pixels: sixteen tiles. -/
def small : State :=
  { State.reset with
    config := { State.reset.config with panelW := 64, panelH := 64 }, tiles := List.replicate 16 Tile.blank }

/-- The pair map entries of mode 3, band 0 in the worked example of section 3.4, as space 1 holds them. -/
def examplePairs : List (Nat × PairEntry) :=
  (List.range 256).map fun i =>
    (6144 + i, if i % 16 = 0 then some 0 else if i % 16 = 15 then some 1 else none)

/-- Rows 100 and 101 of the same example. -/
def exampleRows : List (Nat × Word) :=
  (List.range 16).map fun i => (800 + i, if i = 0 then 22 else if i = 8 then 41 else 0)

/-- The descriptor of mode 3 in the same example. -/
def exampleMode (st : ModeState) : Descriptor :=
  { Descriptor.zeroed with
    state := st, flash := true, rowBase := 100, rowCount := 2, bandSet := 1
    frameCounts := #v[3, 0, 0, 0, 0, 0, 0, 0], checkWord := 218 }

/-- The small panel with mode 3 of the example. -/
def withMode (st : ModeState) : State :=
  { small.setMode 3 (exampleMode st) with
    store := { (small.setMode 3 (exampleMode st)).store with pairs := examplePairs, rows := exampleRows } }

/-- The part with the supply up and the temperature in band 0. -/
def powered : State :=
  { withMode .ready with
    pgood := true, power := { PowerSequencer.reset with state := .on }
    temp := { TempUnit.reset with current := some (.band 0) } }

/-- A WAITING entry of the running pass for mode 3 over a rectangle. -/
def waitingEntry (tag : Tag) (r : Rect) : Entry := ⟨tag, r, 3, false, false, 0, .waiting, true⟩

/-- Powered, with a pass over one entry that asks for tile 0. -/
def passing : State :=
  { powered with queue := [waitingEntry 9 ⟨0, 0, 16, 16⟩], dispatcher := ⟨true, false⟩ }

/-- A slot over tile 0 in mode 3. -/
def slotIn (st : SlotState) : Slot :=
  { Slot.cleared with state := st, tag := 7, rect := ⟨0, 0, 16, 16⟩, mode := 3, frameTotal := 3 }

/-- Powered, with slot 2 STARTING over tile 0 and its snapshot job in the list. -/
def starting : State :=
  { powered.setSlot 2 (slotIn .starting) with
    jobs := [⟨2, .snapshot, 0, none⟩], tiles := ⟨some 2, true, 0⟩ :: List.replicate 15 Tile.blank }

/-- Powered, with slot 2 DRIVING its second frame over tile 0. -/
def driving : State :=
  let sl := { slotIn .driving with
    frameIndex := 1, framesDriven := 2, startStamp := some 5, snapshotDone := true, drivenAnything := true }
  { powered.setSlot 2 sl with
    plan := [⟨2, ⟨0, 0, 16, 16⟩, 3, 0, 1⟩], tiles := ⟨some 2, true, 0⟩ :: List.replicate 15 Tile.blank }

/-- Powered, with slot 2 COMMITTING over tile 0 and its commit job in the list. -/
def committing : State :=
  let sl := { slotIn .committing with
    frameIndex := 2, framesDriven := 3, startStamp := some 5, snapshotDone := true, drivenAnything := true }
  { powered.setSlot 2 sl with
    jobs := [⟨2, .commit, 0, none⟩], tiles := ⟨some 2, true, 0⟩ :: List.replicate 15 Tile.blank }

/-- Driving, with a scan of the small panel in progress. -/
def scanning (line period : Nat) : State := { driving with scan := some ⟨.drive, 2, 64, 64, line, period, [], [], none⟩ }

/-- A write window over eight pixels, with words in its FIFO. -/
def writing (fifo : List Word) (toCome : Nat) : State :=
  { small with load := { LoadEngine.reset with
      state := .writing, rect := ⟨0, 0, 64, 64⟩, streamCount := toCome, remaining := 4096, fifo := fifo } }

/-- A read window of TARGET, with words in its FIFO. -/
def reading (fifo : List Word) (toCome left : Nat) : State :=
  { small with load := { LoadEngine.reset with
      state := .reading, direction := .read, rect := ⟨0, 0, 4, 2⟩, streamCount := toCome, remaining := left, fifo := fifo } }

/-- A record for the Completion Queue. -/
def someRecord (tag : Tag) : Record := ⟨tag, .done, false, false, true, 3, some 0, 3, some 5, 8⟩

/-! ### Ill-formed terms -/

theorem test_unassignedCode_refuses_assigned : (Instr.unknownCommand 1).wellFormed = false := by decide
theorem test_unassignedCode_admits_zero : (Instr.unknownCommand 0).wellFormed = true := by decide
theorem test_registerWrite_refuses_control : (Instr.registerWrite .control 0).wellFormed = false := by decide
theorem test_registerWrite_admits_readOnly : (Instr.registerWrite .id 0).wellFormed = true := by decide

/-! ### Worked examples of the manual -/

/-- Table 3.4: the check word sum of mode 3. -/
theorem test_table_3_4 : (withMode .checking).checkSum 3 = 218 := by decide +kernel
/-- Table 3.2: pixels A, B and C. -/
theorem test_table_3_2 :
    (List.range 3).map (fun i => ((withMode .ready).driveLookup 3 0 i 7 15, (withMode .ready).driveLookup 3 0 i 15 15,
      (withMode .ready).driveLookup 3 0 i 10 0)) =
      [(.darken, .darken, .lighten), (.lighten, .lighten, .darken), (.lighten, .lighten, .darken)] := by
  decide +kernel
/-- A check of the example finds no defect; with another check word it finds CHECK_WORD. -/
theorem test_check_of_example :
    (withMode .checking).checkDefect 3 = none ∧
      (small.setMode 3 { exampleMode .checking with bandSet := 0 }).checkDefect 3 = some .noBand := by
  decide +kernel


/-- Table 2.2 at positions 0 and w h - 1 of the rectangle (4, 8, 3, 2). -/
theorem test_table_2_2 :
    (List.map (fun o => (streamPixel ⟨4, 8, 3, 2⟩ o 0, streamPixel ⟨4, 8, 3, 2⟩ o 5)) [0, 1, 2, 3, 4, 5, 6, 7]) =
      [((4, 8), (6, 9)), ((6, 8), (4, 9)), ((4, 9), (6, 8)), ((6, 9), (4, 8)),
        ((4, 8), (6, 9)), ((4, 9), (6, 8)), ((6, 8), (4, 9)), ((6, 9), (4, 8))] := by decide
/-- Table 9.1: the band table 100, 300, 500, 800. -/
def bandTable : TempUnit :=
  { TempUnit.reset with
    converting := true, lowLimit := 100, bandCount := 3, upper := #v[300, 500, 800, 0, 0, 0, 0, 0] }
theorem test_table_9_1_classes :
    [99, 100, 299, 300, 499, 500, 799, 800].map (fun c => (bandTable.classify c).1) =
      [.out, .band 0, .band 0, .band 1, .band 1, .band 2, .band 2, .out] := by decide +kernel
theorem test_malformed_band_table :
    ({ bandTable with bandCount := 0 }.classify 600) = (.out, .bandTableBad) := by decide +kernel
/-- R140: conversions against a malformed table by the current band: from NONE, OUT at once; from a band, OUT the
candidate, then the current band; from OUT, neither changed. And R139's table where OUT holds a band as candidate. -/
theorem test_malformed_band_table_conversions :
    let ends (current candidate : Option TempClass) : Option TempClass × Option TempClass × Bool :=
      let t := after (.conversionEnd 600) { small with temp := { bandTable with
        bandCount := 0, converting := true, current := current, candidate := candidate } }
      (t.temp.current, t.temp.candidate, t.events.getLsbD 6)
    ends none none = (some .out, none, true) ∧
      ends (some (.band 1)) none = (some (.band 1), some .out, false) ∧
      ends (some (.band 1)) (some .out) = (some .out, none, true) ∧
      ends (some .out) none = (some .out, none, false) ∧
      ends (some .out) (some (.band 1)) = (some .out, none, false) := by decide +kernel
/-- Table 7.2: row 5 of the small panel, slot 0 over (0, 0, 20, 16). -/
theorem test_table_7_2 :
    let s : State := { powered.setSlot 0 { slotIn .driving with rect := ⟨0, 0, 20, 16⟩ } with
      tiles := ⟨some 0, true, 0⟩ :: ⟨some 0, true, 0⟩ :: List.replicate 14 Tile.blank
      plan := [⟨0, ⟨0, 0, 20, 16⟩, 3, 0, 1⟩] }
    [15, 19, 20, 31, 32].map (fun x => (s.formPixel x 5 7 15).code) =
      [.lighten, .lighten, .neutral, .neutral, .neutral] := by decide +kernel
/-- A claim set of section 1.4's kind: tiles touched and tiles covered by (10, 0, 24, 17) on a panel of four columns. -/
theorem test_claim_set :
    (List.range 16).filter (Rect.claims ⟨10, 0, 24, 17⟩ 64) = [0, 1, 2, 4, 5, 6] ∧
      (List.range 16).filter (Rect.covers ⟨10, 0, 24, 17⟩ 64) = [1] ∧
      Rect.union ⟨10, 0, 24, 17⟩ = ⟨0, 0, 48, 32⟩ := by decide

/-! ### Steps of the commands and events -/

theorem test_queue_front :
    stepped { small with pending := [.pop, .submit] } = { small.answered 0x04 .empty with pending := [.submit] } := by
  decide +kernel
theorem test_submit_badTag : (after .submit small).bus.cmdResult = .badTag := by decide +kernel
theorem test_submit_accepted :
    let t := after .submit (withArgs powered #v[0, 0, 16, 16, 9, 3])
    t.bus.cmdResult = .accepted ∧ t.queue = [waitingEntry 9 ⟨0, 0, 16, 16⟩] ∧ t.dispatcher = ⟨true, false⟩ := by
  decide +kernel
theorem test_cancel_waiting :
    let t := after .cancel (withArgs passing #v[0, 0, 0, 0, 9, 0])
    t.bus.cmdResult = .accepted ∧ t.queue = [] ∧ t.completions.map Record.outcome = [.cancelled] ∧ t.flag .complete := by
  decide +kernel
theorem test_cancel_driving :
    let t := after .cancel (withArgs driving #v[0, 0, 0, 0, 7, 0])
    t.bus.cmdResult = .accepted ∧ t.slot 2 = Slot.cleared ∧ t.plan = [] ∧ t.tiles.head? = some ⟨none, false, 0⟩ ∧
      t.completions.map Record.framesDriven = [2] := by
  decide +kernel
theorem test_cancelAll :
    let t := after .cancelAll { starting with queue := passing.queue, dispatcher := passing.dispatcher }
    t.completions.map Record.tag = [9, 7] ∧ t.jobs = [] ∧ t.queue = [] ∧ t.dispatcher = ⟨false, false⟩ := by
  decide +kernel
/-- With room for one record the withdrawn entry's is taken, and the slot's waits in ENDING with its tile UNKNOWN. -/
theorem test_cancelAll_no_room :
    let t := after .cancelAll { driving with
      queue := passing.queue, dispatcher := passing.dispatcher, completions := List.replicate 15 (someRecord 1) }
    t.completions.length = 16 ∧ t.queue = [] ∧ t.posters = [.slot 2] ∧ t.plan = [] ∧ t.flag .complete ∧
      (t.slot 2).state = .ending ∧ (t.slot 2).outcome = some .cancelled ∧ t.tiles.head? = some ⟨some 2, false, 0⟩ := by
  decide +kernel
theorem test_pop :
    let t := after .pop { driving with completions := [someRecord 1, someRecord 2] }
    t.bus.cmdResult = .accepted ∧ t.completions = [someRecord 2] := by decide +kernel
theorem test_loadOpen :
    let t := after .loadOpen (withArgs small #v[0, 0, 6, 2, 0, 0])
    t.bus.cmdResult = .accepted ∧ t.load.state = .writing ∧ t.load.streamCount = 3 ∧ t.load.remaining = 12 := by
  decide +kernel
theorem test_loadOpen_badArg :
    (after .loadOpen (withArgs small #v[0, 0, 6, 2, 2, 0])).bus.cmdResult = .badArg ∧
      (after .loadOpen (withArgs small #v[0, 0, 65, 2, 0, 0])).bus.cmdResult = .badRect := by decide +kernel
theorem test_loadClose :
    (after .loadClose (writing [7] 3)).load.state = .draining ∧
      (after .loadClose (writing [] 3)).load.endReason = .short := by decide +kernel
theorem test_fill :
    let t := after .fillEnd (after .fill (withArgs small #v[5, 0, 6, 1, 11, 0]))
    t.image.target.map Prod.fst = [5, 6, 7, 8, 9, 10] ∧ t.pixel .target 10 0 = 11 ∧ t.flag .loadEnd := by
  decide +kernel
theorem test_tileSet :
    let t := after .tileSet (withArgs small #v[8, 0, 16, 1, 1, 0])
    t.tiles.take 3 = [⟨none, true, 0⟩, ⟨none, true, 0⟩, Tile.blank] ∧
      (after .tileSet (withArgs driving #v[0, 0, 1, 1, 1, 0])).bus.cmdResult = .busy := by decide +kernel
theorem test_modeCheck :
    ((after .modeCheck (withArgs (withMode .opened) #v[3, 218, 0, 0, 0, 0])).mode 3) = exampleMode .checking := by
  decide +kernel
theorem test_checkEnd_ready :
    let t := after .checkEnd (withMode .checking)
    (t.mode 3).state = .ready ∧ t.flag .table ∧ t.store.checkMode = 3 := by decide +kernel
theorem test_modeErase :
    let t := after .modeErase (withArgs (withMode .ready) #v[3, 0, 0, 0, 0, 0])
    t.mode 3 = Descriptor.zeroed ∧ (after .modeErase (withArgs driving #v[3, 0, 0, 0, 0, 0])).bus.cmdResult = .inUse := by
  decide +kernel
theorem test_powerUp : (after .powerUp small).power.riseTimer = some 40 ∧
    (after .powerUp { small with pgood := true }).power.state = .on := by decide +kernel
theorem test_powerDown :
    (after .powerDown powered).power.state = .discharging ∧
      (after .powerDown driving).power.state = .on ∧ (after .powerDown driving).power.downPending := by decide +kernel
theorem test_clearFault :
    let s : State := { small with power := { PowerSequencer.reset with state := .fault } }
    (after .clearFault s).power.state = .off ∧
      (after .clearFault { s with pgood := true }).bus.cmdResult = .badState := by decide +kernel
theorem test_sampleTemp :
    (after .sampleTemp small).temp.converting ∧
      (after .sampleTemp (after .sampleTemp small)).bus.cmdResult = .busy := by decide +kernel
theorem test_softReset :
    let t := after .softReset driving
    t.slot 2 = Slot.cleared ∧ t.tiles.head? = some ⟨none, false, 0⟩ ∧ t.power.state = .falling ∧
      t.power.fallTimer = some 20 := by decide +kernel
theorem test_unknownCommand :
    let t := after (.unknownCommand 0x10) small
    t.bus.cmdResult.code = 14 ∧ t.bus.command = 0x10 := by decide +kernel
theorem test_loadDataWrite :
    (after (.loadDataWrite .addressed 0x1234) (writing [1] 1)).load.state = .draining ∧
      (after (.loadDataWrite .nDack 5) (writing (List.replicate 32 0) 1)).bus.stretched = some (.write 5) := by
  decide +kernel
theorem test_loadDataRead :
    let t := after (.loadDataRead .addressed) (reading [0x4321] 1 0)
    t.bus.busData = 0x4321 ∧ t.load.state = .closed ∧ (after (.loadDataRead .nDack) small).flag .loadErr := by
  decide +kernel
theorem test_stretchedWriteComplete :
    let s := writing (0x4321 :: List.replicate 31 0) 1
    let t := after .stretchedWriteComplete { s with bus := { s.bus with stretched := some (.write 5) } }
    t.nWait ∧ t.load.fifo.length = 32 ∧ t.pixel .target 0 0 = 1 ∧ t.pixel .target 3 0 = 4 ∧ t.load.remaining = 4092 := by
  decide +kernel
theorem test_stretchedReadComplete :
    let s := { reading [] 2 8 with image := ⟨[(0, 1), (1, 2), (2, 3), (3, 4)], [], []⟩ }
    let t := after .stretchedReadComplete { s with bus := { s.bus with stretched := some .read } }
    t.nWait ∧ t.bus.busData = 0x4321 ∧ t.load.remaining = 4 := by decide +kernel
theorem test_tableDataWrite :
    let t := after (.tableDataWrite 0xFFFF) (atTable (withMode .ready) 0 49)
    (t.mode 3).state = .opened ∧ (t.mode 3).rowBase = 2047 ∧ t.bus.tableOffset = 50 := by decide +kernel
theorem test_tableDataWrite_refused :
    let t := after (.tableDataWrite 5) (atTable driving 2 800)
    t.bus.tableRefused ∧ t.flag .tableErr ∧ (t.mode 3).state = .ready := by decide +kernel
theorem test_bandTableWrite :
    ((after (.bandTableWrite 300) (atTable small 3 2)).temp.upper[0]).toNat = 300 := by decide +kernel
theorem test_readOnlySpaceWrite :
    (after (.readOnlySpaceWrite 1) (atTable small 4 0)).flag .tableErr ∧
      (after (.readOnlySpaceWrite 1) (atTable small 7 0)).flag .tableErr = false := by decide +kernel
theorem test_tableDataRead :
    (after .tableDataRead (atTable driving 5 32)).bus.busData = 0x07C2 ∧
      (after .tableDataRead (atTable driving 4 0)).bus.busData = 0x0032 := by decide +kernel
theorem test_statusRead :
    let s := { powered with bus := { powered.bus with statusPage := 3, cfgRefused := true } }
    (after .statusRead s).bus.busData = 0x8102 ∧ (after .statusRead s).bus.cfgRefused = false := by decide +kernel
theorem test_eventWrite :
    (after (.eventWrite 0x0001) { small with events := 0x3 }).events = 0x2 := by decide +kernel
theorem test_eventMaskWrite :
    let t := after (.eventMaskWrite 0xFFFF) { small with events := 1 }
    t.eventMask = 0x3FF ∧ t.nINT = false := by decide +kernel
theorem test_panelGeometryWrite :
    let t := after (.panelGeometryWrite .width 128) small
    t.config.panelW = 128 ∧ t.tiles.length = 32 ∧
      (after (.panelGeometryWrite .height 65) small).bus.cfgRefused := by decide +kernel
theorem test_policyWrite :
    let t := after (.policyWrite 0xFF10) small
    t.config.partialLimit = 15 ∧ t.config.cleanMode = 7 ∧ (t.readRegister .policy) = 0x070F := by decide +kernel
theorem test_controlWrite :
    (after (.controlWrite 0x000F) small).readRegister .control = 0x000F ∧
      (after (.controlWrite 0x0001) passing).dispatcher = ⟨true, true⟩ := by decide +kernel
theorem test_registerWrite :
    (after (.registerWrite .frameTime 10) small).config.frameTime = 50 ∧
      (after (.registerWrite .tableIndexHi 0x050F) small).readRegister .tableIndexHi = 0x050F := by decide +kernel
theorem test_vddApplied :
    (after .vddApplied driving).phase = .undefined ∧ (after .vddApplied driving).power.state = .off := by decide +kernel
theorem test_pinReset :
    let t := after .pinReset driving
    t.phase = .inReset ∧ t.slots = Vector.replicate 16 Slot.cleared ∧ t.config.panelW = 1024 ∧
      t.store.rows = exampleRows ∧ t.dataBus = none ∧ driving.dataBus = some 0 := by decide +kernel
theorem test_resetRelease :
    after .resetRelease (after .pinReset small) = State.reset := by decide +kernel
theorem test_busAccessInReset :
    (after (.busAccessInReset .read) (after .pinReset { small with bus := { small.bus with busData := 9 } })).bus.busData
      = 0 := by decide +kernel
theorem test_pgoodRise :
    let t := after .pgoodRise (after .powerUp small)
    t.power.state = .on ∧ t.flag .pwr := by decide +kernel
theorem test_pgoodFall :
    let t := after .pgoodFall (scanning 3 1)
    t.power.state = .fault ∧ t.scan = none ∧ t.tiles.head? = some ⟨none, false, 0⟩ ∧
      t.completions.map Record.outcome = [.fault] := by decide +kernel
theorem test_frameTimerExpiry :
    (after (.frameTimerExpiry .regionFirst) (scanning 3 1)).frame = ⟨none, true, 0⟩ ∧
      (after (.frameTimerExpiry .regionFirst) driving).frame.counter = 1 := by decide +kernel
/-- Table 6.3: the third frame of three, then COMMITTING. -/
theorem test_frameStart :
    let t := after (.frameStart .regionFirst) driving
    let u := after (.frameStart .regionFirst) t
    (t.slot 2).framesDriven = 3 ∧ t.plan.map PlanEntry.frameIndex = [2] ∧ t.scan.isSome ∧
      (u.slot 2).state = .committing ∧ u.jobs = [⟨2, .commit, 0, none⟩] ∧ u.plan = [] ∧ u.scan = none := by
  decide +kernel
theorem test_frameStart_snapshotDone :
    let s := starting.setSlot 2 { slotIn .starting with snapshotDone := true }
    ((after (.frameStart .regionFirst) { s with jobs := [] }).slot 2).startStamp = some 1 ∧
      ((after (.frameStart .sequencerFirst) starting).slot 2).state = .starting := by decide +kernel
theorem test_scanEnd :
    let t := after (.scanEnd .regionFirst) { scanning 68 10 with frame := ⟨none, true, 4⟩ }
    t.flag .frameLate ∧ t.frame.counter = 5 ∧ (t.slot 2).framesDriven = 3 := by decide +kernel
theorem test_riseTimerExpiry :
    let t := after .riseTimerExpiry (after .powerUp small)
    t.power.state = .fault ∧ t.power.faultReason = .riseTimeout ∧ t.flag .pwrFault := by decide +kernel
theorem test_fallTimerExpiry :
    let s : State := { small with
      power := { PowerSequencer.reset with state := .falling, fallTimer := some 15, wakePending := true } }
    (after .fallTimerExpiry s).power.state = .off ∧
      (after .fallTimerExpiry { s with bus := { s.bus with autoWake := true } }).power.state = .rising := by
  decide +kernel
theorem test_idleCountReached :
    let s : State := { powered with power := { powered.power with idleCount := 24 } }
    let t := after (.idleCountReached .regionFirst) s
    t.power.state = .discharging ∧ t.power.dischargeCount = 1 ∧ t.scan.map Scan.kind = some .discharge ∧
      after (.idleCountReached .regionFirst) powered = powered := by decide +kernel
theorem test_dischargeCountReached :
    let s : State := { small with power := { PowerSequencer.reset with state := .discharging, dischargeCount := 8 } }
    let t := after .dischargeCountReached s
    t.power.state = .falling ∧ t.power.fallTimer = some 20 ∧ t.pwrEn = false := by decide +kernel
theorem test_periodicConversionRequest :
    let s : State := { small with temp := { TempUnit.reset with periodCount := 49 } }
    (after (.periodicConversionRequest .regionFirst) s).temp.converting ∧
      (after (.periodicConversionRequest .regionFirst) s).temp.periodCount = 0 := by decide +kernel
/-- Table 9.1, rows 1 and 2: adoption from NONE, then the first sighting of another band. -/
theorem test_conversionEnd :
    let t := after (.conversionEnd 420) { small with temp := bandTable }
    let u := after (.conversionEnd 510) { t with temp := { t.temp with converting := true } }
    t.temp.current = some (.band 1) ∧ t.flag .temp ∧ u.temp.current = some (.band 1) ∧
      u.temp.candidate = some (.band 2) := by decide +kernel
theorem test_checkEnd_bad :
    ((after .checkEnd (small.setMode 3 { exampleMode .checking with rowCount := 0 })).mode 3).badReason
      = some .rowRange := by decide +kernel
theorem test_quadAccess_job :
    let t := after .quadAccess { starting with image := ⟨[(0, 9), (1, 3), (2, 8), (3, 7)], [], []⟩ }
    t.jobs = [⟨2, .snapshot, 0, some #v[9, 3, 8, 7]⟩] ∧
      (after .quadAccess t).image.frozen = [(0, 15), (1, 0), (2, 15), (3, 0)] := by decide +kernel
theorem test_quadAccess_scan :
    let s := { scanning 2 1 with image := ⟨[], [(0, 7), (1, 10), (2, 0), (3, 0)], [(0, 15), (1, 0), (2, 15), (3, 0)]⟩ }
    (after .quadAccess s).scan.map Scan.fromRead = some (some (0, #v[7, 10, 0, 0])) ∧
      (after .quadAccess (after .quadAccess s)).scan.map (fun sc => sc.formed.map FormedPixel.code) =
        some [.lighten, .darken, .lighten, .darken] := by decide +kernel
theorem test_drainEnd :
    let s := writing [0x4321] 0
    let t := after .drainEnd { s with load := { s.load with
      state := .draining, rect := ⟨6, 1, 4, 1⟩, remaining := 4 } }
    t.image.target = [(1030, 1), (1031, 2), (1032, 3), (1033, 4)] ∧ t.load.endReason = .complete := by decide +kernel
/-- Table 1.2: the scan reads that wait are served before the accesses that the ends of a drain and of a snapshot serve,
and with nothing to serve none is. -/
theorem test_ends_serve_scan_reads :
    let draining (fifo : List Word) : State := { scanning 2 1 with load := { LoadEngine.reset with
      state := .draining, rect := ⟨6, 1, 4, 1⟩, remaining := 4, fifo := fifo } }
    let formed (s : State) := s.scan.map fun sc => sc.formed.length
    formed (after .drainEnd (draining [5])) = some 64 ∧ formed (after .drainEnd (draining [])) = some 0 ∧
      formed (after .snapshotEnd { scanning 2 1 with jobs := [⟨1, .snapshot, 0, none⟩] }) = some 0 ∧
      formed (after .snapshotEnd { (scanning 2 1).setSlot 1 { slotIn .starting with rect := ⟨16, 0, 4, 1⟩ } with
        jobs := [⟨1, .snapshot, 0, none⟩] }) = some 64 := by decide +kernel
theorem test_fillEnd_autoSubmit :
    let t := after .fillEnd (after .fill (withArgs powered #v[0, 0, 2, 1, 0x0980, 3]))
    t.queue = [waitingEntry 9 ⟨0, 0, 2, 1⟩] ∧ t.load.state = .closed := by decide +kernel
theorem test_snapshotEnd :
    let sl := { slotIn .starting with rect := ⟨1, 0, 2, 1⟩ }
    let s := { starting.setSlot 2 sl with image := ⟨[(0, 9), (1, 9), (2, 4), (3, 9)], [], []⟩ }
    (after .snapshotEnd s).image.frozen = [(1, 15), (2, 0)] ∧ ((after .snapshotEnd s).slot 2).snapshotDone := by
  decide +kernel
theorem test_commitEnd :
    let sl := { slotIn .committing with rect := ⟨1, 0, 2, 1⟩, framesDriven := 3 }
    let s := { committing.setSlot 2 sl with image := ⟨[], [], [(0, 9), (1, 15), (2, 0), (3, 9)]⟩ }
    let t := after .commitEnd s
    t.image.current = [(1, 15), (2, 0)] ∧ t.slot 2 = Slot.cleared ∧ t.completions.map Record.outcome = [.done] := by
  decide +kernel
/-- A start in a FLASH mode: the lowest FREE slot, the claim and the snapshot job. -/
theorem test_entryExamination :
    let t := after .entryExamination passing
    t.slot 0 = { slotIn .starting with tag := 9 } ∧ t.queue = [] ∧ t.jobs = [⟨0, .snapshot, 0, none⟩] ∧
      t.tiles.head? = some ⟨some 0, false, 0⟩ := by decide +kernel
theorem test_entryExamination_held :
    let t := after .entryExamination { passing with temp := { passing.temp with current := some .out } }
    t.queue.map Entry.state = [.waiting] ∧ t.dispatcher = ⟨false, false⟩ := by decide +kernel
theorem test_autoPresentationRetry :
    let s : State := { powered with load := { LoadEngine.reset with
      state := .autoPending, rect := ⟨0, 0, 16, 16⟩, template := ⟨9, 3, false, false⟩, retriesOwed := 2 } }
    (after .autoPresentationRetry s).queue = [waitingEntry 9 ⟨0, 0, 16, 16⟩] ∧
      (after .autoPresentationRetry s).flag .loadEnd := by decide +kernel
/-- R31: each fall from 8 entries to 7 brings a presentation of its own, and one that meets QUEUE_FULL uses up its own. -/
theorem test_presentations_counted :
    let full : State := { powered with
      queue := List.replicate 8 { waitingEntry 1 ⟨0, 0, 1, 1⟩ with due := false }
      load := { LoadEngine.reset with
        state := .autoPending, rect := ⟨0, 0, 16, 16⟩, template := ⟨9, 3, false, false⟩, retriesOwed := 1 } }
    (full.removeEntry 0).load.retriesOwed = 2 ∧ ((full.removeEntry 0).removeEntry 0).load.retriesOwed = 2 ∧
      (after .autoPresentationRetry full).load = { full.load with retriesOwed := 0 } := by decide +kernel
/-- Table 11.2: the word written to COMMAND picks the command; other registers take the write as their own row does. -/
theorem test_registerWrite_command :
    after (.registerWrite .command 0x07) (withArgs small #v[5, 0, 6, 1, 11, 0])
        = after .fill (withArgs small #v[5, 0, 6, 1, 11, 0]) ∧
      (after (.registerWrite .command 0x10) small).bus.cmdResult = .unknownCommand ∧
      (after (.registerWrite .panelW 128) small).config.panelW = 128 := by decide +kernel
/-- The end of a line: the row formed from CURRENT and FROZEN is shifted next. -/
theorem test_scanTick :
    (after .quadAccess (scanning 69 1)).scan = (scanning 69 1).scan ∧
      stepped (scanning 68 10) = scanning 68 10 ∧ (scanning 3 10).gck ∧ (scanning 3 9).sle ∧ (scanning 1 1).gst ∧
      ({ scanning 3 1 with scan := some ⟨.discharge, 2, 64, 64, 3, 1, [], [], none⟩ }).sdoWord = 0xFFFF := by
  decide +kernel


/-! ### Witnesses: states that meet the hypotheses of the statements -/

/-- A record of a list found by its place is a member of the list. -/
theorem of_place {α : Type} {l : List α} {P : α → Prop} (h : ∀ t ∈ l, P t) {k : Nat} {t : α} (hk : l[k]? = some t) :
    P t := h t (List.mem_of_getElem? hk)

theorem test_witness_takes :
    State.reset.takes ∧ small.takes ∧ powered.takes ∧ passing.takes ∧ starting.takes ∧ driving.takes ∧
      committing.takes ∧ (scanning 3 1).takes := by decide +kernel
theorem test_witness_QueueFrontRuns : ({ small with pending := [.pop] } : State).pending = .pop :: [] := rfl
theorem test_witness_EmptyQueueIdlesOrScans :
    small.pending = [] ∧ small.scan = none ∧ (scanning 3 9).pending = [] ∧ (scanning 3 9).phase = .running ∧
      (9 < 64 / 8 + 2) ∧ (64 / 8 + 2 ≤ 10 ∧ 67 < 64 + 4) ∧ (64 / 8 + 2 ≤ 10 ∧ 64 + 4 ≤ 68) := by decide +kernel
theorem test_witness_AccessesNotTaken :
    small.pinReset.phase = .inReset ∧ (Instr.busAccessInReset .write).isBusWrite ∧ (Instr.loadDataRead .nDack).isBusRead ∧
      ({ small with bus := { small.bus with stretched := some .read } } : State).phase = .running := by decide +kernel
theorem test_witness_PlainRegisterWrites : assignedCode 0 = false ∧ assignedCode 16 = false := by decide
theorem test_witness_RegistersShowTheState :
    small.config.inRange = true ∧ small.completions = [] ∧
      ({ small with completions := [{ someRecord 1 with framesDriven := 64 }] } : State).config.inRange = true := by
  decide +kernel
theorem test_witness_StatusRead :
    small.withinCapacity = true ∧ small.posters.length ≤ 24 ∧ small.bus.statusPage = 0 ∧
      ({ small with
        load := { small.load with fifo := List.replicate 32 0 }, posters := List.replicate 24 (.slot 0)
        completions := List.replicate 16 (someRecord 1)
        bus := { small.bus with statusPage := 3 } } : State).withinCapacity = true := by decide +kernel
theorem test_witness_TileGrid :
    Rect.legal ⟨63, 0, 1, 64⟩ 64 64 = true ∧ Rect.legal ⟨0, 63, 64, 1⟩ 64 64 = true ∧ 64 % 16 = 0 := by decide
theorem test_witness_TileSetAnswers :
    let bad := withArgs small #v[0, 0, 0, 1, 0, 0]
    let owned := withArgs driving #v[15, 15, 1, 1, 0, 0]
    let fine := withArgs driving #v[16, 0, 1, 1, 0, 0]
    (bad.takes ∧ bad.argRect.legal 64 64 = false) ∧
      (owned.takes ∧ owned.argRect.legal 64 64 = true ∧ owned.tiles[0]? = some ⟨some 2, true, 0⟩ ∧
        owned.argRect.claims 64 0 = true) ∧
      (fine.takes ∧ fine.argRect.legal 64 64 = true ∧
        (fine.tiles.mapIdx fun k t => fine.argRect.claims 64 k && t.owner.isSome) = List.replicate 16 false) := by
  decide +kernel
theorem test_witness_GeometryWrites :
    State.reset.takes ∧ State.reset.power.state = .off ∧ State.reset.queue = [] ∧
      (∀ n, (State.reset.slot n).state = .free) ∧ State.reset.load.state = .closed ∧
      ((64 : Word).toNat % 16 = 0 ∧ 64 ≤ (64 : Word).toNat) ∧ (1024 : Word).toNat ≤ 1024 ∧ (768 : Word).toNat % 16 = 0 ∧
      (65 : Word).toNat % 16 ≠ 0 ∧ driving.power.state ≠ .off := by decide +kernel
theorem test_witness_StreamOrder : Rect.contains ⟨3, 5, 1, 1⟩ 3 5 = true ∧ 0 < 1 * 1 := by decide
theorem test_witness_LoadCloseAnswers :
    (writing [] 1).takes ∧ (reading [] 2 8).takes ∧ (writing [] 1).load.state = .writing := by decide +kernel
theorem test_witness_StreamPortAccesses :
    ((writing (List.replicate 31 0) 1).takes ∧ (writing (List.replicate 31 0) 1).load.fifo.length < 32) ∧
      ((writing (List.replicate 32 0) 1).takes ∧ 32 ≤ (writing (List.replicate 32 0) 1).load.fifo.length) ∧
      (small.takes ∧ small.load.state ≠ .writing ∧ small.load.state ≠ .reading) ∧
      ((reading [1] 2 4).takes ∧ 1 < (reading [1] 2 4).load.streamCount) ∧
      ((reading [1] 1 0).takes ∧ (reading [1] 1 0).load.streamCount ≤ 1) ∧
      ((reading [] 2 8).takes ∧ (reading [] 2 8).load.fifo = []) := by decide +kernel
theorem test_witness_StretchedAccessesComplete_write :
    let full : State := { writing (List.replicate 32 0) 1 with
      bus := { small.bus with stretched := some (.write 5) } }
    let room : State := { writing (List.replicate 31 0) 1 with
      bus := { small.bus with stretched := some (.write 5) } }
    let held : State := { full with jobs := starting.jobs }
    (full.runs ∧ full.bus.stretched = some (.write 5) ∧ full.load.state = .writing ∧
      full.load.fifo = 0 :: List.replicate 31 0 ∧ full.load.fifo.length = 32 ∧ full.jobs = [] ∧
      full.load.wordPos < min 4 full.load.remaining ∧ full.load.rect.legal 1024 768 = true ∧
      full.load.remaining ≤ full.load.rect.w * full.load.rect.h) ∧
      (room.runs ∧ room.load.fifo.length < 32 ∧ room.load.state = .writing) ∧
      (held.runs ∧ 32 ≤ held.load.fifo.length ∧ held.jobs ≠ []) := by decide +kernel
theorem test_witness_StretchedAccessesComplete_read :
    let more : State := { reading [] 2 8 with bus := { small.bus with stretched := some .read } }
    let last : State := { reading [] 1 1 with bus := { small.bus with stretched := some .read } }
    let one : State := { reading [1] 2 4 with bus := { small.bus with stretched := some .read } }
    let held : State := { more with jobs := starting.jobs }
    (more.runs ∧ more.load.state = .reading ∧ more.load.fifo = [] ∧ more.jobs = [] ∧
      more.load.assembled.length < min 4 more.load.remaining ∧ 1 < more.load.streamCount) ∧
      (last.runs ∧ last.load.assembled.length < min 4 last.load.remaining ∧ last.load.streamCount ≤ 1) ∧
      (one.runs ∧ one.load.fifo = 1 :: [] ∧ 1 < one.load.streamCount) ∧ (held.runs ∧ held.jobs ≠ []) ∧
      (({ one with load := { one.load with streamCount := 1 } } : State).runs) := by
  decide +kernel
theorem test_witness_StreamWriteAccess :
    let s := writing [0x4321] 3
    s.runs ∧ s.scan = none ∧ s.jobs = [] ∧ s.load.state = .writing ∧ s.load.fifo = 0x4321 :: [] ∧
      s.load.rect.legal 1024 768 = true ∧ s.load.remaining ≤ s.load.rect.w * s.load.rect.h ∧
      s.load.wordPos < min 4 s.load.remaining := by decide +kernel
theorem test_witness_PrefetchAccess :
    let s := reading (List.replicate 31 0) 33 1
    s.runs ∧ s.scan = none ∧ s.jobs = [] ∧ s.load.state = .reading ∧ s.load.fifo.length < 32 ∧
      s.load.assembled.length < min 4 s.load.remaining := by decide +kernel
theorem test_witness_FillReachesEveryPixel :
    let s := after .fill (withArgs small #v[5, 0, 6, 1, 11, 0])
    s.runs ∧ s.load.state = .filling ∧ s.jobs = [] ∧ s.load.rect.legal 1024 768 = true ∧ s.load.orientation = 0 ∧
      s.load.remaining ≤ s.load.rect.w * s.load.rect.h ∧ s.load.autoSubmit = false ∧ s.scan = none ∧
      0 < s.load.remaining ∧ ({ s with jobs := starting.jobs } : State).runs := by decide +kernel
theorem test_witness_DrainWritesEveryWord :
    let s (wordPos : Nat) : State := { small with load := { LoadEngine.reset with
      state := .draining, rect := ⟨6, 1, 5, 1⟩, remaining := 5, fifo := [0x4321, 5], wordPos := wordPos } }
    ((s 0).runs ∧ (s 0).load.state = .draining ∧ (s 0).jobs = [] ∧ (s 0).load.rect.legal 1024 768 = true ∧
      (s 0).load.remaining ≤ (s 0).load.rect.w * (s 0).load.rect.h ∧
      4 * (s 0).load.fifo.length < (s 0).load.remaining + 4 ∧ (s 0).load.autoSubmit = false) ∧
      ((s 3).runs ∧ (s 3).load.fifo ≠ [] ∧ (s 3).load.wordPos < min 4 (s 3).load.remaining) ∧
      (({ s 0 with jobs := starting.jobs } : State).runs ∧ starting.jobs ≠ []) := by decide +kernel
/-- A head word partly written: its last pixel and the next word's one pixel are written, and no other. -/
theorem test_drainEnd_partly_written :
    (after .drainEnd { small with load := { LoadEngine.reset with
      state := .draining, rect := ⟨6, 1, 5, 1⟩, remaining := 5, fifo := [0x4321, 5], wordPos := 3 } }).image.target
      = [(1033, 4), (1034, 5)] := by decide +kernel
theorem test_witness_WindowEndings :
    let ends (st : LoadState) (close auto : Bool) (owed : Nat) (tag : Tag) : State := { powered with load := { LoadEngine.reset with
      state := st, rect := ⟨0, 0, 16, 16⟩, template := ⟨tag, 3, false, false⟩, closeRequested := close
      autoSubmit := auto, retriesOwed := owed } }
    let request (tag : Tag) : Request := ⟨tag, 0, ⟨0, 0, 16, 16⟩, 3, false, false⟩
    let full : State := { powered with queue := List.replicate 8 { waitingEntry 1 ⟨0, 0, 1, 1⟩ with due := false } }
    ((ends .draining true false 0 9).runs ∧ (ends .filling false true 0 9).runs ∧
      (ends .autoPending false true 1 9).runs) ∧
      (ends .draining false true 0 9).checkRequest (request 9) = .accepted ∧
      (full.runs ∧ full.checkRequest (request 9) = .queueFull) ∧
      (ends .draining false true 0 0).checkRequest (request 0) = .badTag := by decide +kernel
theorem test_witness_TableWritesAffectModes :
    ((atTable small 0 12).takes ∧ (atTable small 0 12).bus.tableSpace.toNat ≤ 2) ∧ ¬(12 % 16 < 12) ∧ ¬(16384 < 16384) ∧
      ((atTable driving 2 800).takes ∧ 3 ∈ (atTable driving 2 800).affectedModes 2 800 ∧ driving.inUse 3 ≠ 0) ∧
      ((atTable (withMode .ready) 0 48).affectedModes 0 48 = [3] ∧ (withMode .ready).inUse 3 = 0) ∧
      ((atTable (withMode .checking) 1 6144).takes ∧ (atTable (withMode .checking) 1 6144).affectedModes 1 6144 = [3] ∧
        (∀ m, ((withMode .checking).mode m).state = .checking → m = 3) ∧ (withMode .checking).inUse 3 = 0) := by
  decide +kernel
theorem test_witness_TablePortReadsAndViews :
    ((atTable small 3 0).takes ∧ (atTable small 3 0).bus.tableSpace = 3) ∧
      (4 ≤ (atTable small 4 0).bus.tableSpace.toNat ∧ (atTable small 6 0).bus.tableSpace.toNat ≤ 6) ∧
      (atTable small 7 0).bus.tableSpace = 7 ∧ (small.slot 15).state = .free ∧ (driving.slot 2).state ≠ .free ∧
      passing.queue[0]? = some (waitingEntry 9 ⟨0, 0, 16, 16⟩) ∧ small.tiles[15]? = some Tile.blank ∧
      (driving.slot 2).rect.legal 1024 768 = true ∧ (driving.slot 2).frameTotal ≤ 64 ∧ (driving.slot 2).frameIndex ≤ 64 ∧
      (driving.slot 2).framesDriven ≤ 64 ∧ driving.queue.length ≤ 8 ∧
      (waitingEntry 9 ⟨0, 0, 16, 16⟩).rect.legal 1024 768 = true := by decide +kernel
/-- Table 11.7: words of a descriptor, a pair, a row, a slot and an entry. -/
theorem test_tableWords :
    [48, 49, 50, 51, 52, 60, 61, 62, 63].map (driving.tableWord 0) = [4, 100, 2, 1, 3, 218, 3, 1, 0] ∧
      [6144, 6145, 6159].map (driving.tableWord 1) = [1, 0, 2] ∧ driving.tableWord 2 800 = 22 ∧
      [33, 34, 35, 36, 37, 38, 39, 40, 41].map (driving.tableWord 5) = [0, 0, 16, 16, 0x0803, 0x0103, 2, 5, 0] ∧
      [2, 3, 4, 5, 6].map (passing.tableWord 6) = [0, 0, 16, 16, 0] := by decide +kernel
theorem test_witness_ModeCheckAndErase :
    (8 ≤ ((withArgs small #v[8, 0, 0, 0, 0, 0]).arg 0).toNat % 16) ∧
      ((withArgs driving #v[3, 0, 0, 0, 0, 0]).takes ∧ driving.inUse 3 ≠ 0) ∧
      ((withMode .checking).inUse 2 = 0 ∧ ((withMode .checking).mode 3).state = .checking) ∧
      ((withMode .ready).inUse 3 = 0 ∧ (∀ m, ((withMode .ready).mode m).state ≠ .checking)) := by decide +kernel
theorem test_witness_CheckFindsTheFirstDefect :
    let descr (d : Descriptor) : State := { withMode .checking with
      store := { (withMode .checking).store with modes := (withMode .checking).store.modes.set 3 d } }
    let good := exampleMode .checking
    (good.rowBase.toNat + good.rowCount.toNat ≤ 2048 ∧ (2046 : BitVec 11).toNat + (2 : BitVec 12).toNat ≤ 2048) ∧
      (descr { good with bandSet := 0 }).checkDefect 3 = some .noBand ∧
      (descr { good with frameCounts := #v[65, 0, 0, 0, 0, 0, 0, 0] }).checkDefect 3 = some .frameCount ∧
      (descr { good with rowBase := 2047 }).checkDefect 3 = some .rowRange ∧
      (descr { good with rowCount := 1 }).checkDefect 3 = some .rowRange ∧
      (descr { good with checkWord := 217 }).checkDefect 3 = some .checkWord ∧ (descr good).checkDefect 3 = none ∧
      { descr good with store := { (descr good).store with rows := (800, 23) :: exampleRows.drop 1 } }.checkDefect 3
        = some .illegalCode := by decide +kernel
theorem test_witness_CheckEnds :
    small.runs ∧ (∀ m, (small.mode m).state ≠ .checking) ∧ (withMode .checking).runs ∧
      (∀ m, ((withMode .checking).mode m).state = .checking → m = 3) ∧ (withMode .checking).checkDefect 3 = none := by
  decide +kernel
theorem test_witness_SubmitAnswers :
    ((withArgs powered #v[0, 0, 16, 16, 9, 3]).takes ∧
      (withArgs powered #v[0, 0, 16, 16, 9, 3]).checkRequest (withArgs powered #v[0, 0, 16, 16, 9, 3]).argRequest
        = .accepted) ∧
      (small.takes ∧ small.checkRequest small.argRequest ≠ .accepted) ∧
      (8 ≤ (8 : BitVec 4).toNat ∧ (7 : BitVec 4).toNat = (7 : Fin 8).val) := by decide +kernel
theorem test_witness_CancelAnswers :
    let asks (s : State) (tag : Nat) := withArgs s #v[0, 0, 0, 0, tag, 0]
    let withdrawn : State := { powered with
      queue := [{ waitingEntry 9 ⟨0, 0, 16, 16⟩ with state := .withdrawn, due := false }] }
    ((asks small 0).takes ∧ (asks small 0).argTag = 0) ∧ ((asks small 9).takes ∧ (asks small 9).argTag ∉ small.liveTags) ∧
      ((asks passing 9).takes ∧ (asks passing 9).argTag = (waitingEntry 9 ⟨0, 0, 16, 16⟩).tag) ∧
      ((asks withdrawn 9).takes ∧ (asks withdrawn 9).argTag ∈ withdrawn.liveTags) ∧
      (∀ s, s = starting ∨ s = driving ∨ s = committing → (s.slot 2).state ≠ .free ∧ (s.slot 2).tag = 7 ∧ s.queue = [] ∧
        ∀ n, n < 2 → (s.slot n).state = .free) := by
  refine ⟨by decide +kernel, by decide +kernel, by decide +kernel, by decide +kernel, ?_⟩
  rintro s (h | h | h) <;> subst h <;> decide +kernel
theorem test_witness_CancelAllWithdrawsAndCuts :
    let s : State := { driving with queue := passing.queue, dispatcher := passing.dispatcher }
    s.takes ∧ s.liveTags.Nodup ∧ small.takes ∧ small.liveTags.Nodup ∧
      ({ s with completions := List.replicate 16 (someRecord 1) } : State).takes := by decide +kernel
theorem test_witness_PopAnswers :
    let s : State := { driving.setSlot 2 { slotIn .ending with outcome := some .done } with
      plan := [], completions := List.replicate 16 (someRecord 1), posters := [.slot 2] }
    small.takes ∧ small.completions = [] ∧ s.takes ∧ s.completions = someRecord 1 :: List.replicate 15 (someRecord 1) ∧
      s.posters = .slot 2 :: [] ∧ ({ small with completions := [someRecord 1] } : State).posters = [] ∧
      (s.phase ≠ .undefined ∧ (after .cancelAll s).completions = s.completions) := by
  decide +kernel
theorem test_witness_PostsAreTaken :
    let s : State := { committing with queue := [{ waitingEntry 9 ⟨0, 0, 16, 16⟩ with state := .withdrawn }] }
    ((committing.setSlot 2 { slotIn .ending with outcome := some .done }).slot 2).outcome = some .done ∧
      (s.queue[0]?).map Entry.state = some .withdrawn ∧ ¬ ∃ j : Nat, j < 0 := by
  exact ⟨by decide +kernel, by decide +kernel, by omega⟩
theorem test_witness_PassesBeginAndEnd :
    let stopping : State := { scanning 3 1 with
      slots := small.slots, power := { powered.power with downPending := true }, frame := ⟨none, true, 6⟩,
      dispatcher := ⟨true, false⟩ }
    small.dispatcher.passInProgress = false ∧ passing.dispatcher.passInProgress = true ∧
      (stopping.settle.power.state = .discharging ∧ stopping.settle.frame.counter = 7 ∧
        stopping.settle.dispatcher.passInProgress = false) ∧
      (passing.power.downPending = false ∧ passing.scan = none ∧ (∃ e ∈ passing.queue, e.due = true ∧ e.state = .waiting)) ∧
      (∀ e ∈ ({ passing with queue := [] } : State).queue, e.due = true → e.state ≠ .waiting) := by decide +kernel

/-- The entry that the pass of `passing` has reached, before which none stands. -/
theorem test_witness_reached :
    passing.runs ∧ passing.dispatcher.passInProgress = true ∧
      passing.queue[0]? = some (waitingEntry 9 ⟨0, 0, 16, 16⟩) ∧ (waitingEntry 9 ⟨0, 0, 16, 16⟩).due = true ∧
      (waitingEntry 9 ⟨0, 0, 16, 16⟩).state = .waiting ∧
      ∀ (j : Nat) (e' : Entry), j < 0 → passing.queue[j]? = some e' → ¬(e'.due = true ∧ e'.state = .waiting) :=
  ⟨by decide +kernel, by decide +kernel, by decide +kernel, rfl, rfl, fun _ _ h => absurd h (Nat.not_lt_zero _)⟩
/-- No waiting condition holds for that entry in `passing`. -/
theorem test_witness_unhindered :
    (waitingEntry 9 ⟨0, 0, 16, 16⟩).afterTag = 0 ∧ passing.temp.current = some (.band 0) ∧
      (passing.slot 0).state = .free ∧ (∀ n' : Fin 16, n' < 0 → (passing.slot n').state ≠ .free) ∧
      (∀ k t, passing.tiles[k]? = some t → Rect.claims ⟨0, 0, 16, 16⟩ passing.config.panelW k = true → t.owner = none) ∧
      passing.power.state = .on ∧ passing.power.downPending = false :=
  ⟨rfl, by decide +kernel, by decide +kernel, by decide +kernel,
    fun _ _ hk _ => of_place (P := fun t => t.owner = none) (by decide +kernel) hk, by decide +kernel, by decide +kernel⟩
theorem test_witness_ExaminationHolds :
    ({ passing with power := { passing.power with downPending := true }, slots := driving.slots } : State).runs ∧
      ({ passing with power := PowerSequencer.reset } : State).runs ∧
      ({ passing with power := PowerSequencer.reset, bus := { passing.bus with autoWake := true } } : State).runs ∧
      ({ passing with temp := TempUnit.reset } : State).runs := by decide +kernel
theorem test_witness_ExaminationRejects :
    let plainMode : State := { passing with store := { passing.store with
      modes := passing.store.modes.set 3 { exampleMode .ready with flash := false } } }
    let noBand : State := { passing with temp := { passing.temp with current := some (.band 7) } }
    (noBand.runs ∧ (noBand.mode 3).bandSet.getLsbD 7 = false) ∧
      (plainMode.runs ∧ (plainMode.mode 3).flash = false ∧ (plainMode.mode 3).bandSet.getLsbD 0 = true ∧
        plainMode.tiles[0]? = some ⟨none, false, 0⟩ ∧ Rect.claims ⟨0, 0, 16, 16⟩ 64 0 = true ∧
        (plainMode.mode plainMode.config.cleanMode).state ≠ .ready) := by decide +kernel
theorem test_witness_ExaminationStarts :
    let plainMode : State := { passing with
      config := { passing.config with cleanMode := 4 }
      store := { passing.store with
        modes := (passing.store.modes.set 3 { exampleMode .ready with flash := false }).set 4 (exampleMode .ready) } }
    ((passing.mode 3).flash = true ∧ (passing.mode 3).bandSet.getLsbD 0 = true) ∧
      (plainMode.runs ∧ (plainMode.mode 3).flash = false ∧ plainMode.tiles[0]? = some ⟨none, false, 0⟩ ∧
        (plainMode.mode plainMode.config.cleanMode).state = .ready ∧
        (plainMode.mode plainMode.config.cleanMode).flash = true ∧
        (plainMode.mode plainMode.config.cleanMode).bandSet.getLsbD 0 = true) := by decide +kernel
theorem test_witness_SlotsAtAFrameStart : small.power.state ≠ .on ∧ driving.power.state = .on := by decide +kernel
theorem test_witness_QuadAccesses :
    let read : State := { scanning 2 1 with
      scan := some ⟨.drive, 2, 64, 64, 2, 1, [], [], some (0, #v[7, 10, 0, 0])⟩ }
    ((scanning 2 1).runs ∧ (scanning 2 1).scanQuad ⟨.drive, 2, 64, 64, 2, 1, [], [], none⟩ = some (0, 0)) ∧
      (read.runs ∧ read.scanQuad ⟨.drive, 2, 64, 64, 2, 1, [], [], some (0, #v[7, 10, 0, 0])⟩ = some (0, 0)) ∧
      (starting.runs ∧ starting.scan = none ∧ starting.jobs = ⟨2, .snapshot, 0, none⟩ :: []) ∧
      ({ starting with jobs := [⟨2, .snapshot, 63, some #v[1, 2, 3, 4]⟩] } : State).runs ∧
      (∀ sc, (scanning 2 1).serveScanReads.scan = some sc → sc.formed.length = 64) ∧
      (63 < ((0 + 16 - 1) / 4 - 0 / 4 + 1) * 16 ∧ ((0 + 16 - 1) / 4 - 0 / 4 + 1) * 16 ≤ 64) ∧
      (small.runs ∧ small.scan = none ∧ small.jobs = [] ∧ small.load.state = .closed) := by decide +kernel
theorem test_witness_SnapshotEndCaptures :
    starting.runs ∧ starting.jobs = ⟨2, .snapshot, 0, none⟩ :: [] ∧ (starting.slot 2).rect.legal 1024 768 = true ∧
      (63 < ((0 + 16 - 1) / 4 - 0 / 4 + 1) * 16 ∧ ¬(64 < ((0 + 16 - 1) / 4 - 0 / 4 + 1) * 16)) ∧
      small.runs ∧ (∀ j ∈ committing.jobs.head?, j.kind ≠ .snapshot) := by decide +kernel
theorem test_witness_CommitEndCopies :
    committing.runs ∧ committing.jobs = ⟨2, .commit, 0, none⟩ :: [] ∧ (committing.slot 2).rect.legal 1024 768 = true ∧
      (∀ j ∈ starting.jobs.head?, j.kind ≠ .commit) := by decide +kernel
theorem test_witness_SlotsAreCut :
    (starting.slot 2).state = .starting ∧ (driving.slot 2).state = .driving ∧ (committing.slot 2).state = .committing := by
  decide +kernel
theorem test_witness_FrameStartDelivery :
    let held : State := { scanning 3 1 with frame := ⟨none, true, 0⟩ }
    (held.runs ∧ held.frame.period = none ∧ held.scan ≠ none ∧ held.frame.held = true) ∧
      (driving.runs ∧ driving.frame.period ≠ none ∧ driving.scan = none) ∧
      ((scanning 3 1).runs ∧ (scanning 3 1).frame.period ≠ none ∧ (scanning 3 1).frame.held = false) := by decide +kernel
theorem test_witness_ScansBeginAndStop :
    (driving.power.state = .on ∧ driving.plan ≠ []) ∧ (powered.power.state = .on ∧ powered.plan = []) ∧
      small.power.state ≠ .on ∧ (scanning 3 1).scan.map Scan.kind = some .drive ∧
      ({ scanning 3 1 with power := PowerSequencer.reset } : State).power.state ≠ .on := by decide +kernel
theorem test_witness_OutputPins :
    (scanning 3 8).scan = some ⟨.drive, 2, 64, 64, 3, 8, [], [], none⟩ ∧ 3 ≤ 3 ∧ 66 ≤ 64 + 2 ∧ 8 ≤ 64 / 8 ∧ 64 / 8 < 9 := by
  decide +kernel
theorem test_witness_PixelCodes :
    driving.ownerAt 15 15 = some 2 ∧ driving.ownerAt 16 0 = none ∧ (driving.planOf 2).isSome = true ∧
      driving.planOf 3 = none ∧ (2 ≤ 2 ∧ 65 ≤ 64 + 1 ∧ 64 % 4 = 0) ∧ ((withMode .ready).mode 3).state = .ready ∧
      ((withMode .ready).mode 3).bandSet.getLsbD 0 = true ∧ 2 < (((withMode .ready).mode 3).frameCounts[0]).toNat := by
  decide +kernel
theorem test_witness_readyModesSound : (withMode .ready).readyModesSound := by
  unfold State.readyModesSound
  decide +kernel
theorem test_witness_SupplyEvents :
    let inState (st : PowerState) : State := { small with power := { PowerSequencer.reset with state := st } }
    small.pinReset.phase = .inReset ∧ (inState .rising).runs ∧ (inState .falling).runs ∧ powered.runs ∧
      (inState .discharging).runs ∧ ({ inState .falling with pgood := true } : State).runs := by decide +kernel
theorem test_witness_CountedFrames :
    let idle : State := { powered with power := { powered.power with idleCount := 24 } }
    let spent : State := { small with
      power := { PowerSequencer.reset with state := .discharging, dischargeCount := 8 } }
    (idle.runs ∧ idle.power.state = .on ∧ (∀ n, (idle.slot n).state ≠ .starting ∧ (idle.slot n).state ≠ .driving) ∧
      idle.queue = [] ∧ idle.config.idleFrames ≤ min 255 (24 + 1) ∧ idle.idleReaches .regionFirst = true) ∧
      powered.idleReaches .sequencerFirst = false ∧
      (spent.runs ∧ spent.config.dischargeFrames ≤ spent.power.dischargeCount) := by decide +kernel
theorem test_witness_Conversions :
    let s : State := { small with temp := { TempUnit.reset with periodCount := 49 } }
    (s.runs ∧ s.config.tempPeriod ≠ 0 ∧ s.config.tempPeriod ≤ s.temp.periodCount + 1) ∧ small.takes ∧
      bandTable.tableGood = true ∧ 99 < bandTable.lowLimit.toNat ∧ (bandTable.upper[2]).toNat ≤ 800 ∧
      (({ small with temp := bandTable } : State).runs ∧ bandTable.converting = true ∧ bandTable.current = none) := by
  decide +kernel
theorem test_witness_PinResetAndVdd :
    small.pinReset.phase = .inReset ∧ small.phase = .running ∧ small.redraw.phase = .undefined ∧
      Instr.pgoodRise.isBusRead = false := by decide +kernel

/-! The invariants in a state with a slot DRIVING, in which a step answers a next state. -/

theorem test_witness_step : step { driving with pending := [.frameStart .regionFirst] } =
    .next (after (.frameStart .regionFirst) driving) := rfl
theorem test_witness_StepsEndSettled : driving.settled = true ∧ driving.phase = .running := by decide +kernel
theorem test_witness_StoresStaySound :
    driving.storesCanonical = true ∧ driving.withinCapacity = true ∧ driving.config.inRange = true ∧
      driving.tileMapFits = true := by decide +kernel
theorem test_witness_jobsSound : driving.jobsSound ∧ starting.jobsSound ∧ committing.jobsSound := by
  unfold State.jobsSound
  decide +kernel
theorem test_witness_usedModesReady : driving.usedModesReady ∧ driving.inUse 3 = 1 := by
  unfold State.usedModesReady
  decide +kernel
theorem test_witness_ownersAgree : driving.ownersAgree := by
  intro k t n h
  have hall : ∀ (k : Fin 16) (n : Fin 16), ((driving.tiles[k.val]?).map Tile.owner = some (some n)) ↔
      (driving.slot n).state ≠ .free ∧ (driving.slot n).rect.claims driving.config.panelW k.val = true := by
    decide +kernel
  have hk : k < 16 := by
    have := (List.getElem?_eq_some_iff.mp h).1
    simpa [driving] using this
  have := hall ⟨k, hk⟩ n
  simpa [h] using this
theorem test_witness_driveSound : driving.driveSound := by
  refine ⟨test_witness_usedModesReady.1, ?_, ?_, test_witness_jobsSound.1, ?_, ?_⟩
  · unfold State.readyModesSound
    decide +kernel
  · unfold State.slotsSound
    decide +kernel
  · unfold State.planSound
    decide +kernel
  · intro sc h
    cases h
theorem test_witness_requestsSound : driving.requestsSound := by
  refine ⟨by decide +kernel, by decide +kernel, by decide +kernel, ?_, by decide +kernel, by decide +kernel⟩
  intro p
  cases p with
  | slot n =>
    have h : ∀ n : Fin 16, (driving.slot n).state ≠ .ending := by decide +kernel
    have hp : driving.posters = [] := rfl
    simp [State.offers, h n, hp]
  | entry t =>
    have hq : driving.queue = [] := rfl
    have hp : driving.posters = [] := rfl
    simp [State.offers, hq, hp]

end Sys2Proof.Tests
end

/-! PROOFS. What one step of the part can do, and how an invariant of the blocks is carried over it: `step_cases` is the
inversion lemma, `step_keeps` the induction step that each invariant of the blocks instantiates. -/

namespace Sys2Proof.Machine

/-! ### The fields that the shell of the part owns -/

/-- The second state has the configuration, the memories, the Load Engine, the Waveform Store, the requests, the slots,
the tile map, the jobs and the completion records of the first. -/
structure State.sameBlocks (s t : State) : Prop where
  config : t.config = s.config
  image : t.image = s.image
  load : t.load = s.load
  store : t.store = s.store
  queue : t.queue = s.queue
  slots : t.slots = s.slots
  tiles : t.tiles = s.tiles
  jobs : t.jobs = s.jobs
  completions : t.completions = s.completions

/-! ### What a step can do -/

/-- What a step leaves: the blocks as they were; the effect of a command or event taken by the running part, and what
follows from it; the pin-reset state, of the state or of a redrawn one; or the undefined blocks drawn afresh. -/
inductive StepShape (s : State) : State → Prop
  | kept {t : State} (h : s.sameBlocks t) (hp : s.phase = .undefined → t.phase = .undefined) : StepShape s t
  | effect (c : Instr) (rest : List Instr) (hp : s.phase = .running) (hc : route c ≠ none) :
      StepShape s (State.effect { s with pending := rest } c).settle
  | pinReset (u : State) (h : s.sameBlocks u ∨ ∃ v : State, u = v.redraw) : StepShape s u.pinReset
  | redrawn (u : State) (b : Bool) : StepShape s { u.redraw with pgood := b }

theorem State.sameBlocks_tick (s : State) : s.sameBlocks s.tick := by
  constructor <;> simp

/-- A pin that acts on the part as a whole: VDD, nRESET, and an access made while it is low. -/
theorem stepShape_of_no_route (s : State) (c : Instr) (rest : List Instr) (hc : route c = none) :
    StepShape s (State.effect { s with pending := rest } c) := by
  have hredraw (u : State) : StepShape s u.redraw := .redrawn u u.pgood
  have hrest : s.sameBlocks { s with pending := rest } := ⟨rfl, rfl, rfl, rfl, rfl, rfl, rfl, rfl, rfl⟩
  cases c with
  | pinReset => exact .pinReset _ (.inl hrest)
  | vddApplied =>
    simp only [State.effect, State.applyVdd]
    split
    · exact .pinReset _ (.inr ⟨_, rfl⟩)
    all_goals exact hredraw _
  | resetRelease =>
    simp only [State.effect, State.releaseReset]
    split
    · exact hredraw _
    · rename_i hp
      exact .kept ⟨rfl, rfl, rfl, rfl, rfl, rfl, rfl, rfl, rfl⟩ fun h => by rw [h] at hp; cases hp
    · exact .kept hrest id
  | busAccessInReset a =>
    simp only [State.effect, State.accessInReset]
    split
    · exact hredraw _
    all_goals exact .kept ⟨rfl, rfl, rfl, rfl, rfl, rfl, rfl, rfl, rfl⟩ id
  | _ => simp [route] at hc

/-- The inversion lemma of a step. -/
theorem step_cases {s t : State} (h : step s = .next t) : StepShape s t := by
  unfold step at h
  split at h
  · cases h
    exact .kept s.sameBlocks_tick (by simp)
  · rename_i c rest _
    rcases exec_cases c { s with pending := rest } with
      ⟨hc, hx⟩ | ⟨hp, hc, hx⟩ | hx | hx | ⟨-, b, hx⟩ | ⟨-, hx⟩ | ⟨-, b, hx⟩ <;>
      (rw [hx] at h; cases h)
    · exact stepShape_of_no_route s c rest hc
    · exact .effect c rest hp hc
    · exact .kept ⟨rfl, rfl, rfl, rfl, rfl, rfl, rfl, rfl, rfl⟩ id
    · exact .kept ⟨rfl, rfl, rfl, rfl, rfl, rfl, rfl, rfl, rfl⟩ id
    · exact .kept ⟨rfl, rfl, rfl, rfl, rfl, rfl, rfl, rfl, rfl⟩ id
    · exact .redrawn { s with pending := rest } s.pgood
    · exact .redrawn _ _

/-- An invariant of the blocks that pin reset establishes and that the effect of every command and event keeps, with
what follows in its step, is kept by every step until the blocks are undefined. -/
theorem step_keeps {P : State → Prop} (hsame : ∀ {s t : State}, s.sameBlocks t → P s → P t)
    (hreset : ∀ s : State, P s.pinReset)
    (heffect : ∀ (s : State) (c : Instr), route c ≠ none → P s → P (s.effect c))
    (hsettle : ∀ s : State, P s → P s.settle) {s t : State} (hs : s.phase = .undefined ∨ P s)
    (h : step s = .next t) : t.phase = .undefined ∨ P t := by
  cases step_cases h with
  | kept hb hp => exact hs.imp hp (hsame hb)
  | effect c rest hp hc =>
    rcases hs with hu | hP
    · rw [hp] at hu; cases hu
    · have hrest : s.sameBlocks { s with pending := rest } := ⟨rfl, rfl, rfl, rfl, rfl, rfl, rfl, rfl, rfl⟩
      exact .inr (hsettle _ (heffect _ c hc (hsame hrest hP)))
  | pinReset u => exact .inr (hreset u)
  | redrawn u b => exact .inl rfl

/-! ### The write accesses as writes of a register -/

/-- The register write that a write access of the bus is, a command being a write of its code to COMMAND (R153, R154).
UNKNOWN_COMMAND, whose code names no command, has no effect but its answer and is left out. -/
def registerWriteOf : Instr → Option (Reg × Word)
  | .submit => some (.command, 0x01)
  | .cancel => some (.command, 0x02)
  | .cancelAll => some (.command, 0x03)
  | .pop => some (.command, 0x04)
  | .loadOpen => some (.command, 0x05)
  | .loadClose => some (.command, 0x06)
  | .fill => some (.command, 0x07)
  | .tileSet => some (.command, 0x08)
  | .modeCheck => some (.command, 0x09)
  | .modeErase => some (.command, 0x0A)
  | .powerUp => some (.command, 0x0B)
  | .powerDown => some (.command, 0x0C)
  | .clearFault => some (.command, 0x0D)
  | .sampleTemp => some (.command, 0x0E)
  | .softReset => some (.command, 0x0F)
  | .loadDataWrite _ w => some (.loadData, w)
  | .tableDataWrite w | .bandTableWrite w | .readOnlySpaceWrite w => some (.tableData, w)
  | .eventWrite w => some (.event, w)
  | .eventMaskWrite w => some (.eventMask, w)
  | .panelGeometryWrite a w => some (match a with | .width => .panelW | .height => .panelH, w)
  | .policyWrite w => some (.policy, w)
  | .controlWrite w => some (.control, w)
  | .registerWrite r w => some (r, w)
  | _ => none

theorem effect_of_registerWriteOf {c : Instr} {r : Reg} {w : Word} (h : registerWriteOf c = some (r, w)) (s : State) :
    s.effect c = s.writeRegister r w := by
  cases c
  case panelGeometryWrite a _ => cases a <;> cases h <;> rfl
  all_goals cases h
  all_goals rfl

/-- A command leaves the blocks as its effect does: the answer is written to the bus registers alone. -/
theorem sameBlocks_commanded (s : State) (code : Word) (f : State → State × Result) :
    (f { s with bus := { s.bus with command := code } }).1.sameBlocks (s.commanded code f) :=
  ⟨rfl, rfl, rfl, rfl, rfl, rfl, rfl, rfl, rfl⟩

end Sys2Proof.Machine

/-! PROOFS. What the examination of an entry can do (R76 to R89): one inversion lemma for each of its three layers. -/

namespace Sys2Proof.Machine

/-- The union of a rectangle's claim set has the same claim set (R10, R83). -/
theorem claims_union (r : Rect) (w n : Nat) : r.union.claims w n = r.claims w n := by
  have hx : (16 * (r.x / 16) + (16 * ((r.x + r.w - 1) / 16 + 1) - 16 * (r.x / 16)) - 1) / 16 = (r.x + r.w - 1) / 16 := by
    omega
  have hy : (16 * (r.y / 16) + (16 * ((r.y + r.h - 1) / 16 + 1) - 16 * (r.y / 16)) - 1) / 16 = (r.y + r.h - 1) / 16 := by
    omega
  simp only [Rect.claims, Rect.union, hx, hy, Nat.mul_div_cancel_left _ (Nat.zero_lt_succ 15)]

/-- The entry at position i is no longer among those that the running pass has still to reach (R76). -/
def State.reached (s : State) (i : Nat) : State :=
  { s with queue := s.queue.modify i fun e => { e with due := false } }

/-- A slot as a start over the claim set of an entry fills it (R88). -/
structure Slot.startsOver (sl : Slot) (e : Entry) : Prop where
  state : sl.state = .starting
  snapshotDone : sl.snapshotDone = false
  outcome : sl.outcome = none
  claims : ∀ w k, sl.rect.claims w k = e.rect.claims w k

/-- An entry that meets no waiting condition is rejected, or started over its claim set (R81 to R87). -/
theorem decideEntry_cases (s : State) (i : Nat) (e : Entry) (b : Fin 8) (n : Fin 16) :
    (∃ r, s.decideEntry i e b n = s.reject i e r) ∨
      ∃ sl : Slot, sl.startsOver e ∧ s.decideEntry i e b n = s.startRegion i n sl := by
  unfold State.decideEntry
  split
  · exact .inl ⟨_, rfl⟩
  · split
    · split
      · exact .inl ⟨_, rfl⟩
      · split
        · exact .inl ⟨_, rfl⟩
        · exact .inr ⟨_, ⟨rfl, rfl, rfl, claims_union e.rect⟩, rfl⟩
    · exact .inr ⟨_, ⟨rfl, rfl, rfl, fun _ _ => rfl⟩, rfl⟩

/-- An examination holds the entry, with or without a wake request, or decides it: into the FREE slot found, where no
tile of the entry's claim set is owned (R77, R78, R80). -/
theorem examine_cases (s : State) (i : Nat) (e : Entry) :
    s.examine i e = s.reached i ∨ s.examine i e = (s.reached i).wakeRequest ∨
      ∃ b n, s.freeSlot = some n ∧ s.anyClaimed e.rect (fun t => t.owner.isSome) = false ∧
        s.examine i e = (s.reached i).decideEntry i e b n := by
  have hexamine : s.examine i e =
      if (s.reached i).hindered i e then s.reached i
      else if !(s.reached i).powerReady then
        if (s.reached i).bus.autoWake && (s.reached i).power.state != .on then (s.reached i).wakeRequest
        else s.reached i
      else match (s.reached i).knownBand, (s.reached i).freeSlot with
        | some b, some n => (s.reached i).decideEntry i e b n
        | _, _ => s.reached i := rfl
  rw [hexamine]
  split
  · exact .inl rfl
  · rename_i hfree
    split
    · split
      · exact .inr (.inl rfl)
      · exact .inl rfl
    · split
      · rename_i b n _ hn
        simp only [State.hindered, Bool.or_eq_true, not_or, Bool.not_eq_true] at hfree
        obtain ⟨⟨_, hclear⟩, _⟩ := hfree
        exact .inr (.inr ⟨b, n, hn, hclear, rfl⟩)
      · exact .inl rfl

/-- The running pass examines one entry, or has none left (R76). -/
theorem examineNext_cases (s : State) : s.examineNext = s ∨ ∃ i e, s.examineNext = s.examine i e := by
  unfold State.examineNext
  split
  · split
    · exact .inl rfl
    · split
      · exact .inl rfl
      · exact .inr ⟨_, _, rfl⟩
  · exact .inl rfl

end Sys2Proof.Machine

/-! PROOFS. The memory job list and the tile map's owners (R12, R92, R94): each operation that touches the slots, the jobs
or the owners keeps `State.regionsSound`. -/

namespace Sys2Proof.Machine

/-! ### The invariant by the keys of the jobs and the owners of the tiles -/

/-- The invariant of O58. -/
def State.regionsSound (s : State) : Prop := s.jobsSound ∧ s.ownersAgree

/-- The slot and the kind of each job, in the order of the list. -/
def State.jobKeys (s : State) : List (Fin 16 × JobKind) := s.jobs.map fun j => (j.slot, j.kind)

/-- The owner of each tile, in the order of the map. -/
def State.owners (s : State) : List (Option (Fin 16)) := s.tiles.map Tile.owner

/-- The kind of the job that a slot has in the list, if any (R94, R98, R101). -/
def Slot.jobKind (sl : Slot) : Option JobKind :=
  match sl.state with
  | .starting => if sl.snapshotDone then none else some .snapshot
  | .committing => some .commit
  | .free | .driving | .ending => none

/-- A slot that is not FREE and claims tile `k` of a panel of `w` pixels width (R12). -/
def Slot.holds (sl : Slot) (w k : Nat) : Prop := sl.state ≠ .free ∧ sl.rect.claims w k = true

theorem jobKind_eq_snapshot_iff (sl : Slot) :
    sl.jobKind = some .snapshot ↔ sl.state = .starting ∧ sl.snapshotDone = false := by
  unfold Slot.jobKind
  cases sl.state <;> cases sl.snapshotDone <;> simp

theorem jobKind_eq_commit_iff (sl : Slot) : sl.jobKind = some .commit ↔ sl.state = .committing := by
  unfold Slot.jobKind
  cases sl.state <;> cases sl.snapshotDone <;> simp

@[simp] theorem Slot.cleared_jobKind : Slot.cleared.jobKind = none := rfl

theorem mem_jobKeys (s : State) (n : Fin 16) (k : JobKind) :
    (n, k) ∈ s.jobKeys ↔ ∃ j ∈ s.jobs, j.slot = n ∧ j.kind = k := by
  simp [State.jobKeys]

theorem jobsSound_iff (s : State) :
    s.jobsSound ↔
      (∀ n, (s.slot n).outcome.isSome = true ↔ (s.slot n).state = .ending) ∧
        (s.jobKeys.map Prod.fst).Nodup ∧ ∀ n k, (n, k) ∈ s.jobKeys ↔ (s.slot n).jobKind = some k := by
  have hslots : s.jobKeys.map Prod.fst = s.jobs.map Job.slot := by simp [State.jobKeys]
  unfold State.jobsSound
  simp only [hslots, ← mem_jobKeys, ← jobKind_eq_snapshot_iff, ← jobKind_eq_commit_iff]
  refine and_congr_right fun _ => and_congr_right fun _ => ⟨fun ⟨hs, hc⟩ n k => ?_, fun h => ⟨(h · _), (h · _)⟩⟩
  cases k with
  | snapshot => exact hs n
  | commit => exact hc n

theorem ownersAgree_iff (s : State) :
    s.ownersAgree ↔ ∀ k o n, s.owners[k]? = some o → (o = some n ↔ (s.slot n).holds s.config.panelW k) := by
  simp only [State.ownersAgree, State.owners, Slot.holds, List.getElem?_map, Option.map_eq_some_iff]
  constructor
  · rintro h k o n ⟨t, ht, rfl⟩
    exact h k t n ht
  · exact fun h k t n ht => h k _ n ⟨t, ht, rfl⟩

/-- The invariant reads the slots, the keys of the jobs, the owners and the panel width. -/
theorem regionsSound_congr {s t : State} (hs : t.slots = s.slots) (hj : t.jobKeys = s.jobKeys)
    (ho : t.owners = s.owners) (hw : t.config.panelW = s.config.panelW) (h : s.regionsSound) : t.regionsSound := by
  simpa only [State.regionsSound, jobsSound_iff, ownersAgree_iff, slot_of_slots hs, hj, ho, hw] using h

theorem regionsSound_of_same {s t : State} (hs : t.slots = s.slots) (hj : t.jobs = s.jobs) (ht : t.tiles = s.tiles)
    (hw : t.config.panelW = s.config.panelW) (h : s.regionsSound) : t.regionsSound :=
  regionsSound_congr hs (by simp [State.jobKeys, hj]) (by simp [State.owners, ht]) hw h

theorem regionsSound_of_sameBlocks {s t : State} (h : s.sameBlocks t) (hs : s.regionsSound) : t.regionsSound :=
  regionsSound_of_same h.slots h.jobs h.tiles (by rw [h.config]) hs

/-- With every slot cleared, no job and no owner, the invariant holds. -/
theorem regionsSound_of_cleared {s : State} (hs : ∀ n, s.slot n = Slot.cleared) (hj : s.jobs = [])
    (ho : ∀ o ∈ s.owners, o = none) : s.regionsSound := by
  refine ⟨(jobsSound_iff s).mpr ⟨?_, ?_, ?_⟩, (ownersAgree_iff s).mpr fun k o n hk => ?_⟩
  · simp [hs, Slot.cleared]
  · simp [State.jobKeys, hj]
  · simp [State.jobKeys, hj, hs, Slot.cleared, Slot.jobKind]
  · simp [ho o (List.mem_of_getElem? hk), hs, Slot.holds, Slot.cleared]

/-! ### Tile records rewritten without their owners -/

theorem map_owner_mapTiles {f : Nat → Tile → Tile} (hf : ∀ k t, (f k t).owner = t.owner) (k : Nat) (ts : List Tile) :
    (mapTiles f k ts).map Tile.owner = ts.map Tile.owner := by
  induction ts generalizing k with
  | nil => rfl
  | cons t ts ih => simp [mapTiles, hf, ih]

theorem owners_updateClaimed (s : State) (r : Rect) {f : Nat → Tile → Tile} (hf : ∀ k t, (f k t).owner = t.owner) :
    (s.updateClaimed r f).owners = s.owners :=
  map_owner_mapTiles (fun k t => by split <;> simp [hf]) 0 s.tiles

theorem owner_commitTile (flash : Bool) (r : Rect) (w n : Nat) (t : Tile) : (commitTile flash r w n t).owner = t.owner := by
  unfold commitTile
  repeat' split
  all_goals rfl

theorem regionsSound_updateClaimed {s : State} (h : s.regionsSound) (r : Rect) {f : Nat → Tile → Tile}
    (hf : ∀ k t, (f k t).owner = t.owner) : (s.updateClaimed r f).regionsSound :=
  regionsSound_congr (s := s) rfl rfl (owners_updateClaimed s r hf) rfl h

/-! ### A slot enters ENDING, and becomes FREE (R105, R106) -/

@[simp] theorem jobKeys_setSlot (s : State) (n : Fin 16) (sl : Slot) : (s.setSlot n sl).jobKeys = s.jobKeys := rfl
@[simp] theorem jobKeys_releaseTiles (s : State) (n : Fin 16) : (s.releaseTiles n).jobKeys = s.jobKeys := rfl
@[simp] theorem slot_releaseTiles (s : State) (n m : Fin 16) : (s.releaseTiles n).slot m = s.slot m := rfl

/-- A slot without a job is cleared as the tiles it owns are released. -/
theorem regionsSound_cleared {s : State} {n : Fin 16} (h : s.regionsSound) (hn : (s.slot n).jobKind = none) :
    ((s.releaseTiles n).setSlot n Slot.cleared).regionsSound := by
  obtain ⟨hj, ha⟩ := h
  obtain ⟨hout, hnodup, hkeys⟩ := (jobsSound_iff s).mp hj
  refine ⟨(jobsSound_iff _).mpr ⟨fun m => ?_, hnodup, fun m k => ?_⟩, fun k t m hk => ?_⟩
  · by_cases hm : m = n
    · simp [hm, Slot.cleared]
    · simpa [hm] using hout m
  · by_cases hm : m = n
    · subst hm
      simpa [Slot.cleared_jobKind, hn] using hkeys m k
    · simpa [hm] using hkeys m k
  · rw [show ((s.releaseTiles n).setSlot n Slot.cleared).tiles = (s.releaseTiles n).tiles from rfl,
      tiles_releaseTiles, Option.map_eq_some_iff] at hk
    obtain ⟨t', ht', rfl⟩ := hk
    have hagree := fun m => ha k t' m ht'
    by_cases hm : m = n
    · subst hm
      by_cases ho : t'.owner = some m <;> simp [ho, Slot.cleared]
    · by_cases ho : t'.owner = some n
      · simpa [hm, ho, Ne.symm hm] using hagree m
      · simpa [hm, ho] using hagree m

theorem jobKind_of_outcome {s : State} (h : s.jobsSound) {n : Fin 16} (hn : (s.slot n).outcome.isSome = true) :
    (s.slot n).jobKind = none := by
  simp [Slot.jobKind, (h.1 n).mp hn]

theorem regionsSound_takePost {s : State} (h : s.regionsSound) (p : Poster) : (s.takePost p).regionsSound := by
  cases p with
  | entry t => exact regionsSound_of_same (by simp [State.takePost]) (by simp) (by simp [State.takePost]) (by simp) h
  | slot n =>
    simp only [State.takePost, State.takeSlotPost]
    split
    · exact h
    · rename_i o ho
      have hadd := regionsSound_of_same (t := s.addRecord ((s.slot n).record o s.frame.counter) (s.slot n).notify)
        (by simp) (by simp) (by simp) (by simp) h
      refine regionsSound_of_same (by simp) (by simp) (by simp) (by simp) (regionsSound_cleared (n := n) hadd ?_)
      exact jobKind_of_outcome hadd.1 (by simp [slot_of_slots (addRecord_frame s _ _).2.2.2.2.2.2.2.2.2.2.2.1, ho])

theorem regionsSound_offer {s : State} (h : s.regionsSound) (p : Poster) : (s.offer p).regionsSound := by
  unfold State.offer
  split
  · exact regionsSound_takePost h p
  · exact regionsSound_of_same rfl rfl rfl rfl h

/-- A slot enters ENDING as its jobs leave the list. -/
theorem regionsSound_endSlot {s u : State} {n : Fin 16} {o : SlotOutcome} (h : s.regionsSound)
    (hn : (s.slot n).state ≠ .free) (hs : u.slots = s.slots) (ho : u.owners = s.owners)
    (hw : u.config.panelW = s.config.panelW) (hsub : u.jobKeys.Sublist s.jobKeys)
    (hk : ∀ m k, (m, k) ∈ u.jobKeys ↔ m ≠ n ∧ (m, k) ∈ s.jobKeys) :
    (u.endSlot n o).regionsSound := by
  refine regionsSound_offer ?_ _
  obtain ⟨hj, ha⟩ := h
  obtain ⟨hout, hnodup, hkeys⟩ := (jobsSound_iff s).mp hj
  refine ⟨(jobsSound_iff _).mpr ⟨fun m => ?_, (hsub.map _).nodup hnodup, fun m k => ?_⟩,
    (ownersAgree_iff _).mpr fun k o' m hk' => ?_⟩
  · by_cases hm : m = n
    · simp [hm]
    · simpa [hm, slot_of_slots hs] using hout m
  · by_cases hm : m = n
    · simpa [hm, Slot.jobKind] using fun h => ((hk n k).mp h).1 rfl
    · simpa [hm, slot_of_slots hs] using (hk m k).trans ((and_iff_right hm).trans (hkeys m k))
  · have hagree := (ownersAgree_iff s).mp ha k o' m (ho ▸ hk')
    by_cases hm : m = n
    · subst hm
      simpa [Slot.holds, slot_of_slots hs, hw, hn] using hagree
    · simpa [hm, slot_of_slots hs, hw] using hagree

theorem regionsSound_offerEntries {s : State} (h : s.regionsSound) (ts : List Tag) :
    (s.offerEntries ts).regionsSound := by
  induction ts generalizing s with
  | nil => exact h
  | cons t ts ih => exact ih (regionsSound_offer h _)

/-! ### Slots cut short (R102, R104) -/

theorem regionsSound_cutSlot {s : State} (h : s.regionsSound) (n : Fin 16) (o : SlotOutcome) :
    (s.cutSlot n o).regionsSound := by
  have hkeys := ((jobsSound_iff s).mp h.1).2.2 n
  unfold State.cutSlot
  split
  case h_1 hst =>
    have hfilter : (s.abandonSnapshot n).jobKeys
        = s.jobKeys.filter fun key => !(key.1 == n && key.2 == .snapshot) := by
      simp [State.jobKeys, State.abandonSnapshot, List.filter_map, Function.comp_def]
    have hcommit : (n, .commit) ∉ s.jobKeys := by
      rw [hkeys, jobKind_eq_commit_iff, hst]
      simp
    refine regionsSound_endSlot h (by simp [hst]) rfl rfl rfl (by rw [hfilter]; exact List.filter_sublist)
      fun m k => ?_
    rw [hfilter, List.mem_filter]
    cases k with
    | snapshot => simp [and_comm]
    | commit =>
      by_cases hm : m = n
      · simp [hm, hcommit]
      · simp [hm]
  case h_2 hst =>
    have hnone : ∀ k, (n, k) ∉ s.jobKeys := by simp [hkeys, Slot.jobKind, hst]
    refine regionsSound_endSlot h (by simp [hst]) rfl (owners_updateClaimed (s.leavePlan n) _ fun _ _ => rfl) rfl
      (List.Sublist.refl _) fun m k => ?_
    refine (and_iff_right_of_imp ?_).symm
    rintro hm rfl
    exact hnone k hm
  all_goals exact h

theorem regionsSound_cutSlots {s : State} (h : s.regionsSound) (o : SlotOutcome) (ns : List (Fin 16)) :
    (s.cutSlots o ns).regionsSound := by
  induction ns generalizing s with
  | nil => exact h
  | cons n ns ih => exact ih (regionsSound_cutSlot h n o)

end Sys2Proof.Machine

/-! PROOFS. The memory job list and the tile map's owners over a whole step: starts, frame starts, the ends of jobs, the
configuration, and the assembly of O58. -/

namespace Sys2Proof.Machine

/-! ### A start (R87 to R89) -/

/-- The slot filled, its snapshot job asked for and its tiles claimed: a start before its entry is removed (R88, R89). -/
def State.claimedStart (s : State) (n : Fin 16) (sl : Slot) : State :=
  State.claimTiles { s.setSlot n sl with jobs := s.jobs ++ [Job.mk n .snapshot 0 none] } n sl.rect

theorem startRegion_eq (s : State) (i : Nat) (n : Fin 16) (sl : Slot) :
    s.startRegion i n sl = (s.claimedStart n sl).removeEntry i := rfl

theorem slot_claimedStart (s : State) (n m : Fin 16) (sl : Slot) :
    (s.claimedStart n sl).slot m = if m = n then sl else s.slot m :=
  slot_setSlot s n m sl

theorem jobKeys_claimedStart (s : State) (n : Fin 16) (sl : Slot) :
    (s.claimedStart n sl).jobKeys = s.jobKeys ++ [(n, .snapshot)] := by
  simp [State.jobKeys, State.claimedStart]

theorem tiles_claimedStart (s : State) (n : Fin 16) (sl : Slot) (k : Nat) :
    (s.claimedStart n sl).tiles[k]? = s.tiles[k]?.map fun t =>
      if sl.rect.claims s.config.panelW k = true then { t with owner := some n } else t :=
  tiles_updateClaimed { s.setSlot n sl with jobs := s.jobs ++ [Job.mk n .snapshot 0 none] } sl.rect _ k

theorem jobsSound_claimedStart {s : State} (h : s.jobsSound) {n : Fin 16} {sl : Slot} {e : Entry}
    (hfree : (s.slot n).state = .free) (hsl : sl.startsOver e) : (s.claimedStart n sl).jobsSound := by
  obtain ⟨houts, hnodup, hkeys⟩ := (jobsSound_iff s).mp h
  have hnone : ∀ k, (n, k) ∉ s.jobKeys := by simp [hkeys, Slot.jobKind, hfree]
  refine (jobsSound_iff _).mpr ⟨fun m => ?_, ?_, fun m k => ?_⟩
  · by_cases hm : m = n
    · simp [slot_claimedStart, hm, hsl.state, hsl.outcome]
    · simpa [slot_claimedStart, hm] using houts m
  · simpa [jobKeys_claimedStart, List.nodup_append] using ⟨hnodup, fun a k hk (e : a = n) => hnone k (e ▸ hk)⟩
  · by_cases hm : m = n
    · simp [slot_claimedStart, jobKeys_claimedStart, hm, Slot.jobKind, hsl.state, hsl.snapshotDone, hnone, eq_comm]
    · simpa [slot_claimedStart, jobKeys_claimedStart, hm] using hkeys m k

/-- Where no tile of the claim set is owned, a FREE slot that starts over it owns exactly its tiles. -/
theorem ownersAgree_claimedStart {s : State} (h : s.ownersAgree) {n : Fin 16} {sl : Slot}
    (hfree : (s.slot n).state = .free) (hst : sl.state = .starting)
    (hclear : s.anyClaimed sl.rect (fun t => t.owner.isSome) = false) : (s.claimedStart n sl).ownersAgree := by
  intro k t m hk
  rw [tiles_claimedStart, Option.map_eq_some_iff] at hk
  obtain ⟨t', ht', rfl⟩ := hk
  have hagree := h k t' m ht'
  have hw : (s.claimedStart n sl).config = s.config := rfl
  by_cases hc : sl.rect.claims s.config.panelW k = true
  · have howner : t'.owner = none := by
      by_contra hsome
      rw [← Bool.not_eq_true, anyClaimed_iff] at hclear
      exact hclear ⟨k, t', ht', hc, Option.isSome_iff_ne_none.mpr hsome⟩
    by_cases hm : m = n
    · simp [slot_claimedStart, hm, hc, hw, hst]
    · simpa [slot_claimedStart, hm, hc, hw, howner, Ne.symm hm] using hagree
  · by_cases hm : m = n
    · subst hm
      simpa [slot_claimedStart, hc, hw, hfree] using hagree
    · simpa [slot_claimedStart, hm, hc, hw] using hagree

theorem state_of_freeSlot {s : State} {n : Fin 16} (h : s.freeSlot = some n) : (s.slot n).state = .free := by
  simpa using List.find?_some h

/-- A start into the FREE slot found, where no tile of the entry's claim set is owned. -/
theorem regionsSound_startRegion {s : State} (h : s.regionsSound) (i : Nat) {n : Fin 16} {sl : Slot} {e : Entry}
    (hn : s.freeSlot = some n) (hsl : sl.startsOver e)
    (hclear : s.anyClaimed e.rect (fun t => t.owner.isSome) = false) : (s.startRegion i n sl).regionsSound := by
  have hclear' : s.anyClaimed sl.rect (fun t => t.owner.isSome) = false := by
    simpa only [State.anyClaimed, hsl.claims] using hclear
  have hstart : (s.claimedStart n sl).regionsSound :=
    ⟨jobsSound_claimedStart h.1 (state_of_freeSlot hn) hsl,
      ownersAgree_claimedStart h.2 (state_of_freeSlot hn) hsl.state hclear'⟩
  rw [startRegion_eq]
  exact regionsSound_of_same (by simp) (by simp) (by simp) (by simp) hstart

theorem regionsSound_examine {s : State} (h : s.regionsSound) (i : Nat) (e : Entry) : (s.examine i e).regionsSound := by
  have hq : (s.reached i).regionsSound := regionsSound_of_same rfl rfl rfl rfl h
  rcases examine_cases s i e with hx | hx | ⟨b, n, hn, hclear, hx⟩
  · rw [hx]
    exact hq
  · rw [hx]
    exact regionsSound_of_same (by simp) (by simp) (by simp) (by simp) hq
  · rw [hx]
    rcases decideEntry_cases (s.reached i) i e b n with ⟨r, hd⟩ | ⟨sl, hsl, hd⟩
    · rw [hd]
      exact regionsSound_of_same (by simp) (by simp) (by simp) (by simp) hq
    · rw [hd]
      exact regionsSound_startRegion hq i hn hsl hclear

theorem regionsSound_examineNext {s : State} (h : s.regionsSound) : s.examineNext.regionsSound := by
  rcases examineNext_cases s with hx | ⟨i, e, hx⟩
  · rw [hx]
    exact h
  · rw [hx]
    exact regionsSound_examine h i e

/-! ### A frame start (R97, R98) -/

theorem advance_outcome (c : Word) (sl : Slot) : (sl.advance c).outcome = sl.outcome := by
  unfold Slot.advance
  repeat' split
  all_goals rfl

theorem advance_rect (c : Word) (sl : Slot) : (sl.advance c).rect = sl.rect := by
  unfold Slot.advance
  repeat' split
  all_goals rfl

theorem advance_free_iff (c : Word) (sl : Slot) : (sl.advance c).state = .free ↔ sl.state = .free := by
  unfold Slot.advance
  repeat' split
  all_goals simp_all

theorem advance_ending_iff (c : Word) (sl : Slot) : (sl.advance c).state = .ending ↔ sl.state = .ending := by
  unfold Slot.advance
  repeat' split
  all_goals simp_all

/-- A slot keeps its job at a frame start, and one that finishes its drive, which had none, gets a commit job (R98). -/
theorem jobKind_advance (c : Word) (sl : Slot) :
    (sl.advance c).jobKind = if sl.finishesDrive = true then some .commit else sl.jobKind := by
  unfold Slot.advance
  split
  case h_1 hst => split <;> simp_all [Slot.jobKind, Slot.finishesDrive]
  case h_2 hst =>
    split
    · rename_i hlt
      simp [Slot.jobKind, Slot.finishesDrive, hst, hlt]
    · rename_i hle
      simp [Slot.jobKind, Slot.finishesDrive, hst, Nat.not_lt.mp hle]
  all_goals simp_all [Slot.jobKind, Slot.finishesDrive]

theorem jobKind_of_finishesDrive {sl : Slot} (h : sl.finishesDrive = true) : sl.jobKind = none := by
  simp only [Slot.finishesDrive, Bool.and_eq_true, beq_iff_eq] at h
  simp [Slot.jobKind, h.1]

/-- The commit jobs that a frame start brings (R98). -/
def State.commitJobs (s : State) : List Job :=
  (slotNumbers.filter fun n => (s.slot n).finishesDrive).map fun n => Job.mk n .commit 0 none

/-- The slots and the job list as a frame start taken in ON leaves them (R98). -/
def State.advanced (s : State) : State :=
  { s with slots := s.slots.map (Slot.advance s.frame.counter), jobs := s.jobs ++ s.commitJobs }

theorem slot_advanced (s : State) (n : Fin 16) : s.advanced.slot n = (s.slot n).advance s.frame.counter := by
  simp [State.slot, State.advanced]

theorem jobKeys_advanced (s : State) : s.advanced.jobKeys = s.jobKeys ++
    (slotNumbers.filter fun n => (s.slot n).finishesDrive).map fun n => (n, .commit) := by
  simp [State.advanced, State.jobKeys, State.commitJobs, Function.comp_def]

theorem jobsSound_advanced {s : State} (h : s.jobsSound) : s.advanced.jobsSound := by
  obtain ⟨houts, hnodup, hkeys⟩ := (jobsSound_iff s).mp h
  refine (jobsSound_iff _).mpr ⟨fun m => ?_, ?_, fun m k => ?_⟩
  · simpa [slot_advanced, advance_outcome, advance_ending_iff] using houts m
  · have hcommits : (slotNumbers.filter fun n => (s.slot n).finishesDrive).Nodup :=
      List.Nodup.filter _ (by decide)
    rw [jobKeys_advanced, List.map_append, List.map_map, Function.comp_def, List.map_id', List.nodup_append]
    refine ⟨hnodup, hcommits, ?_⟩
    rintro a ha _ hb rfl
    obtain ⟨⟨a, k⟩, hk, rfl⟩ := List.mem_map.mp ha
    have hnone := jobKind_of_finishesDrive (List.mem_filter.mp hb).2
    rw [hkeys, hnone] at hk
    cases hk
  · rw [slot_advanced, jobKind_advance, jobKeys_advanced, List.mem_append, hkeys]
    by_cases hf : (s.slot m).finishesDrive = true
    · simp [hf, jobKind_of_finishesDrive hf, mem_slotNumbers]
    · simp [hf]

theorem regionsSound_advanced {s : State} (h : s.regionsSound) : s.advanced.regionsSound := by
  refine ⟨jobsSound_advanced h.1, fun k t m hk => ?_⟩
  have hconfig : s.advanced.config = s.config := rfl
  simpa [hconfig, slot_advanced, advance_rect, advance_free_iff] using h.2 k t m hk

theorem regionsSound_regionFrame {s : State} (h : s.regionsSound) : s.regionFrame.regionsSound := by
  unfold State.regionFrame
  split
  · have hadv := regionsSound_advanced h
    exact regionsSound_of_same (by simp [State.advanced]) (by simp [State.advanced, State.commitJobs])
      (by simp [State.advanced]) (by simp [State.advanced]) hadv
  · exact regionsSound_of_same rfl rfl rfl rfl h

theorem regionsSound_deliverFrame {s : State} (h : s.regionsSound) (o : FrameOrder) :
    (s.deliverFrame o).regionsSound := by
  have ht : State.regionsSound
      (State.temperatureFrame { s with frame := ⟨some s.config.frameTime, false, s.frame.counter + 1⟩ }) :=
    regionsSound_of_same (by simp) (by simp) (by simp) (by simp) h
  unfold State.deliverFrame
  dsimp only
  cases o with
  | regionFirst =>
    have hr := regionsSound_regionFrame ht
    exact regionsSound_of_same (by simp) (by simp) (by simp) (by simp) hr
  | sequencerFirst =>
    have hp (u : State) (hu : u.regionsSound) : u.powerFrame.regionsSound :=
      regionsSound_of_same (by simp) (by simp) (by simp) (by simp) hu
    have hr := regionsSound_regionFrame (hp _ ht)
    exact regionsSound_of_same (by simp) (by simp) (by simp) (by simp) hr

theorem regionsSound_endScan {s : State} (h : s.regionsSound) (o : FrameOrder) : (s.endScan o).regionsSound := by
  unfold State.endScan
  dsimp only
  split
  · exact regionsSound_deliverFrame (regionsSound_of_same (by simp) (by simp) (by simp) (by simp) h) o
  · exact regionsSound_of_same rfl rfl rfl rfl h

theorem regionsSound_frameStart {s : State} (h : s.regionsSound) (o : FrameOrder) : (s.frameStart o).regionsSound := by
  unfold State.frameStart
  dsimp only
  split <;> exact regionsSound_deliverFrame (regionsSound_of_same (by simp) (by simp) (by simp) (by simp) h) o

theorem regionsSound_settle {s : State} (h : s.regionsSound) : s.settle.regionsSound := by
  have hd : s.dischargeIfDue.regionsSound := regionsSound_of_same (by simp) (by simp) (by simp) (by simp) h
  have hstop : s.dischargeIfDue.stopScanIfLeft.regionsSound := by
    unfold State.stopScanIfLeft
    split
    · exact hd
    · split
      · exact hd
      · exact regionsSound_endScan hd _
  exact regionsSound_of_same (by simp [State.settle]) (by simp [State.settle]) (by simp [State.settle])
    (by simp [State.settle]) hstop

/-! ### The ends of jobs (R95, R100, R101) -/

theorem jobKeys_jobAccess (s : State) : s.jobAccess.jobKeys = s.jobKeys := by
  unfold State.jobAccess
  split
  · rfl
  · dsimp only
    split
    · split <;> simp_all [State.jobKeys]
    · rfl

theorem jobKeys_quadAccess (s : State) : s.quadAccess.jobKeys = s.jobKeys := by
  have hlower : s.lowerAccess.jobKeys = s.jobKeys := by
    unfold State.lowerAccess
    split
    · simp [State.jobKeys]
    · exact jobKeys_jobAccess s
  unfold State.quadAccess
  split
  · exact hlower
  · split
    · exact hlower
    · simp [State.jobKeys]

theorem regionsSound_quadAccess {s : State} (h : s.regionsSound) : s.quadAccess.regionsSound :=
  regionsSound_congr (by simp) (jobKeys_quadAccess s) (by simp [State.owners]) (by simp) h

/-- The first key is that of the running job, and no other job is of its slot. -/
theorem mem_rest_jobKeys_iff {s : State} (h : s.jobsSound) {j : Job} {rest : List Job} (hjobs : s.jobs = j :: rest)
    (m : Fin 16) (k : JobKind) :
    (m, k) ∈ State.jobKeys { s with jobs := rest } ↔ m ≠ j.slot ∧ (m, k) ∈ s.jobKeys := by
  have hnodup := ((jobsSound_iff s).mp h).2.1
  have hcons : s.jobKeys = (j.slot, j.kind) :: State.jobKeys { s with jobs := rest } := by simp [State.jobKeys, hjobs]
  rw [hcons, List.map_cons, List.nodup_cons] at hnodup
  rw [hcons, List.mem_cons]
  constructor
  · intro hk
    refine ⟨?_, .inr hk⟩
    rintro rfl
    exact hnodup.1 (List.mem_map.mpr ⟨_, hk, rfl⟩)
  · rintro ⟨hm, hk | hk⟩
    · cases hk
      exact absurd rfl hm
    · exact hk

/-- The running snapshot job leaves the list as its slot's snapshot is done (R95). -/
theorem regionsSound_snapshotDone {s u : State} (h : s.regionsSound) {j : Job} {rest : List Job}
    (hjobs : s.jobs = j :: rest) (hkind : j.kind = .snapshot)
    (hs : ∀ m, u.slot m = if m = j.slot then { s.slot j.slot with snapshotDone := true } else s.slot m)
    (huj : u.jobs = rest) (ht : u.tiles = s.tiles) (hw : u.config = s.config) : u.regionsSound := by
  obtain ⟨hj, ha⟩ := h
  obtain ⟨houts, hnodup, hkeys⟩ := (jobsSound_iff s).mp hj
  have hrest := mem_rest_jobKeys_iff hj hjobs
  have hukeys : u.jobKeys = State.jobKeys { s with jobs := rest } := by simp [State.jobKeys, huj]
  have hcons : s.jobKeys = (j.slot, j.kind) :: u.jobKeys := by simp [State.jobKeys, hjobs, huj]
  obtain ⟨hstarting, -⟩ := (jobKind_eq_snapshot_iff (s.slot j.slot)).mp
    ((hkeys j.slot .snapshot).mp (by rw [hcons, ← hkind]; exact List.mem_cons_self))
  refine ⟨(jobsSound_iff u).mpr ⟨fun m => ?_, ?_, fun m k => ?_⟩, fun k t m hk => ?_⟩
  · by_cases hm : m = j.slot
    · simpa [hs, hm] using houts j.slot
    · simpa [hs, hm] using houts m
  · rw [hcons, List.map_cons, List.nodup_cons] at hnodup
    exact hnodup.2
  · rw [hukeys, hrest m k]
    by_cases hm : m = j.slot
    · simp [hs, hm, Slot.jobKind, hstarting]
    · simp [hs, hm, hkeys]
  · rw [ht] at hk
    by_cases hm : m = j.slot
    · simpa [hs, hm, hw] using ha k t j.slot hk
    · simpa [hs, hm, hw] using ha k t m hk

theorem regionsSound_endSnapshot {s : State} (h : s.regionsSound) : s.endSnapshot.regionsSound := by
  unfold State.endSnapshot
  split
  · exact h
  · rename_i j rest hjobs
    split
    · rename_i hkind
      have hslot : ∀ m, s.serveJob.slot m = s.slot m := slot_of_slots (by simp)
      refine regionsSound_snapshotDone h hjobs hkind (fun m => ?_) rfl (by simp) (by simp)
      exact (slot_setSlot s.serveJob j.slot m _).trans (by simp [hslot])
    · exact h

theorem regionsSound_endCommit {s : State} (h : s.regionsSound) : s.endCommit.regionsSound := by
  unfold State.endCommit
  split
  · exact h
  · rename_i j rest hjobs
    split
    · rename_i hkind
      have hcommitting : (s.slot j.slot).state = .committing := by
        rw [← jobKind_eq_commit_iff, ← ((jobsSound_iff s).mp h.1).2.2, ← hkind, State.jobKeys, hjobs]
        exact List.mem_cons_self
      refine regionsSound_endSlot h (by rw [hcommitting]; simp) (by simp [State.updateClaimed])
        ((owners_updateClaimed _ _ fun k t => owner_commitTile _ _ _ k t).trans (by simp [State.owners])) (by simp)
        ?_ (mem_rest_jobKeys_iff h.1 hjobs)
      show List.Sublist (rest.map _) s.jobKeys
      rw [State.jobKeys, hjobs]
      exact List.sublist_cons_self _ _
    · exact h

end Sys2Proof.Machine

/-! PROOFS. The tile map's owners over every command and event, and O58. -/

namespace Sys2Proof.Machine

/-! ### Commands and register writes -/

theorem regionsSound_cancelTag {s : State} (h : s.regionsSound) (t : Tag) : (s.cancelTag t).1.regionsSound := by
  unfold State.cancelTag
  split
  · exact h
  · split
    · split
      · split
        · exact regionsSound_of_same (by simp) (by simp) (by simp) (by simp) h
        · exact h
      · exact h
    · split
      · split
        · exact regionsSound_cutSlot h _ _
        · exact h
      · exact h

theorem regionsSound_cancelAll {s : State} (h : s.regionsSound) : s.cancelAll.1.regionsSound := by
  have hcut : ((s.withdrawAll.offerEntries s.waitingTags).cutSlots .cancelled slotNumbers).regionsSound :=
    regionsSound_cutSlots (regionsSound_offerEntries
      (regionsSound_of_same (by simp) (by simp) (by simp) (by simp) h) _) _ _
  unfold State.cancelAll
  dsimp only
  split
  · exact hcut
  · exact regionsSound_of_same (by simp) (by simp) (by simp) (by simp) hcut

theorem regionsSound_popRecord {s : State} (h : s.regionsSound) : s.popRecord.1.regionsSound := by
  unfold State.popRecord
  split
  · exact h
  · rename_i rest _
    have hrest (ps : List Poster) : State.regionsSound { s with completions := rest, posters := ps } :=
      regionsSound_of_same rfl rfl rfl rfl h
    dsimp only
    split
    · exact hrest s.posters
    · rename_i p ps _
      exact regionsSound_takePost (hrest ps) p

theorem regionsSound_tileSet {s : State} (h : s.regionsSound) : s.tileSet.1.regionsSound := by
  unfold State.tileSet
  split
  · exact h
  · split
    · exact h
    · have hset := regionsSound_updateClaimed h s.argRect
        (f := fun _ t => if bitOf (s.arg 4) 0 then t.makeKnown else t.makeUnknown) fun _ _ => by split <;> rfl
      have hpass {u : State} (hu : u.regionsSound) : (if u.tiles = s.tiles then u else u.startPass).regionsSound := by
        split
        · exact hu
        · exact regionsSound_of_same (by simp) (by simp) (by simp) (by simp) hu
      exact hpass hset

theorem owner_softResetTile (s : State) (t : Tile) : (s.softResetTile t).owner = none := by
  unfold State.softResetTile
  split
  · assumption
  · split <;> rfl

theorem regionsSound_softReset (s : State) : s.softReset.regionsSound := by
  refine regionsSound_of_cleared (fun n => by simp [State.slot, State.softReset]) rfl fun o ho => ?_
  simp only [State.owners, State.softReset, List.mem_map] at ho
  obtain ⟨_, ⟨t, -, rfl⟩, rfl⟩ := ho
  exact owner_softResetTile s t

theorem regionsSound_pinReset (s : State) : s.pinReset.regionsSound := by
  refine regionsSound_of_cleared (fun n => ?_) rfl fun o ho => ?_
  · exact Vector.getElem_replicate n.isLt
  · have hblank : s.pinReset.owners = List.replicate 3072 none := List.map_replicate
    rw [hblank] at ho
    exact List.eq_of_mem_replicate ho

theorem regionsSound_commandEffect {s : State} (h : s.regionsSound) (code : Word) :
    (s.commandEffect code).1.regionsSound := by
  unfold State.commandEffect
  split
  case h_2 => exact regionsSound_cancelTag h _
  case h_3 => exact regionsSound_cancelAll h
  case h_4 => exact regionsSound_popRecord h
  case h_8 => exact regionsSound_tileSet h
  case h_15 => exact regionsSound_softReset s
  all_goals exact regionsSound_of_same (by simp) (by simp) (by simp) (by simp) h

/-- No request is live when every slot is FREE and the queue is empty (R60). -/
theorem anyLive_eq_false_iff (s : State) : s.anyLive = false ↔ s.queue = [] ∧ ∀ n, (s.slot n).state = .free := by
  simp [State.anyLive, mem_slotNumbers]

/-- A geometry is taken with no live request, and leaves no owner. -/
theorem regionsSound_writeGeometry {s : State} (h : s.regionsSound) (axis : PanelAxis) (w : Word) :
    (s.writeGeometry axis w).regionsSound := by
  unfold State.writeGeometry
  split
  · rename_i hq
    simp only [State.quiescent, Bool.and_eq_true, Bool.not_eq_true', anyLive_eq_false_iff] at hq
    obtain ⟨⟨⟨_, _, hfree⟩, _⟩, _⟩ := hq
    have hslot : ∀ n, (s.takeGeometry axis w.toNat).slot n = s.slot n := slot_of_slots (by simp)
    refine ⟨?_, (ownersAgree_iff _).mpr fun k o n hk => ?_⟩
    · simpa [State.jobsSound, hslot] using h.1
    · have ho : o = none := by
        simp only [State.owners, State.takeGeometry, List.map_replicate] at hk
        exact List.eq_of_mem_replicate (List.mem_of_getElem? hk)
      simp [ho, Slot.holds, hslot, hfree]
  · exact regionsSound_of_same (by simp) (by simp) (by simp) (by simp) h

/-- A write to a register other than COMMAND, PANEL_W and PANEL_H leaves the slots, the jobs and the tiles alone. -/
theorem regionsSound_writeRegister {s : State} (h : s.regionsSound) (r : Reg) (w : Word) :
    (s.writeRegister r w).regionsSound := by
  cases r with
  | command =>
    have hb : State.regionsSound { s with bus := { s.bus with command := w } } :=
      regionsSound_of_same rfl rfl rfl rfl h
    exact regionsSound_of_sameBlocks (sameBlocks_commanded s w fun s => s.commandEffect w)
      (regionsSound_commandEffect hb w)
  | panelW => exact regionsSound_writeGeometry h .width w
  | panelH => exact regionsSound_writeGeometry h .height w
  | _ =>
    exact regionsSound_of_same (by simp [State.writeRegister]) (by simp [State.writeRegister])
      (by simp [State.writeRegister]) (by simp [State.writeRegister, State.writePlain, State.writePolicy]) h

/-! ### Events -/

theorem regionsSound_fallOfPgood {s : State} (h : s.regionsSound) : s.fallOfPgood.regionsSound := by
  unfold State.fallOfPgood
  dsimp only
  split
  · exact regionsSound_cutSlots (regionsSound_of_same (by simp) (by simp) (by simp) (by simp) h) _ _
  · exact regionsSound_cutSlots (regionsSound_of_same (by simp) (by simp) (by simp) (by simp) h) _ _
  all_goals exact regionsSound_of_same rfl rfl rfl rfl h

theorem regionsSound_expireFrameTimer {s : State} (h : s.regionsSound) (o : FrameOrder) :
    (s.expireFrameTimer o).regionsSound := by
  unfold State.expireFrameTimer
  split
  · exact h
  · split
    · exact regionsSound_of_same rfl rfl rfl rfl h
    · exact regionsSound_deliverFrame h o

theorem regionsSound_scanEnds {s : State} (h : s.regionsSound) (o : FrameOrder) : (s.scanEnds o).regionsSound := by
  unfold State.scanEnds
  split
  · exact regionsSound_endScan h o
  · exact h

theorem regionsSound_reachIdle {s : State} (h : s.regionsSound) (o : FrameOrder) : (s.reachIdle o).regionsSound := by
  unfold State.reachIdle
  split
  · exact regionsSound_frameStart h o
  · exact h

theorem regionsSound_reachDischarge {s : State} (h : s.regionsSound) : s.reachDischarge.regionsSound := by
  unfold State.reachDischarge
  split
  · exact regionsSound_frameStart h _
  · exact h

theorem regionsSound_reachPeriod {s : State} (h : s.regionsSound) (o : FrameOrder) : (s.reachPeriod o).regionsSound := by
  unfold State.reachPeriod
  split
  · exact regionsSound_frameStart h o
  · exact h

/-- The effect of every command and event that has a route keeps the invariant. Those not named leave the slots, the
jobs and the tiles alone. -/
theorem regionsSound_effect (s : State) (c : Instr) (hc : route c ≠ none) (h : s.regionsSound) :
    (s.effect c).regionsSound := by
  cases hw : registerWriteOf c with
  | some rw => exact effect_of_registerWriteOf hw s ▸ regionsSound_writeRegister h rw.1 rw.2
  | none =>
    cases c with
    | pgoodFall => exact regionsSound_fallOfPgood h
    | frameTimerExpiry o => exact regionsSound_expireFrameTimer h o
    | frameStart o => exact regionsSound_frameStart h o
    | scanEnd o => exact regionsSound_scanEnds h o
    | idleCountReached o => exact regionsSound_reachIdle h o
    | dischargeCountReached => exact regionsSound_reachDischarge h
    | periodicConversionRequest o => exact regionsSound_reachPeriod h o
    | quadAccess => exact regionsSound_quadAccess h
    | snapshotEnd => exact regionsSound_endSnapshot h
    | commitEnd => exact regionsSound_endCommit h
    | entryExamination => exact regionsSound_examineNext h
    | unknownCommand code =>
      have hb : State.regionsSound { s with bus := { s.bus with command := code } } :=
        regionsSound_of_same rfl rfl rfl rfl h
      exact regionsSound_of_sameBlocks (sameBlocks_commanded s code State.noCommand) hb
    | vddApplied | pinReset | resetRelease | busAccessInReset => simp [route] at hc
    | _ =>
      exact regionsSound_of_same (by simp_all [State.effect, registerWriteOf])
        (by simp_all [State.effect, registerWriteOf]) (by simp_all [State.effect, registerWriteOf])
        (by simp_all [State.effect, registerWriteOf]) h

/-- Settles O58: the invariant `State.regionsSound` through the one step of `step_keeps`. -/
theorem ownersStayInAgreement : Obligations.OwnersStayInAgreement := by
  intro s t hs h
  exact step_keeps (P := State.regionsSound) regionsSound_of_sameBlocks regionsSound_pinReset regionsSound_effect
    (fun _ => regionsSound_settle) hs h

end Sys2Proof.Machine

/-! PROOFS. The canonical form of the planes, the pair maps and the row pool over every step (log 2): each access of a
lower agent and each table write keeps it. -/

namespace Sys2Proof.Machine

/-- The canonical form reads the planes, the pair maps and the row pool. -/
theorem storesCanonical_congr {s t : State} (hi : t.image = s.image) (hp : t.store.pairs = s.store.pairs)
    (hr : t.store.rows = s.store.rows) (h : s.storesCanonical = true) : t.storesCanonical = true := by
  simpa only [State.storesCanonical, hi, hp, hr] using h

theorem storesCanonical_of_same {s t : State} (hi : t.image = s.image) (hs : t.store = s.store)
    (h : s.storesCanonical = true) : t.storesCanonical = true :=
  storesCanonical_congr hi (by rw [hs]) (by rw [hs]) h

theorem storesCanonical_of_sameBlocks {s t : State} (hb : s.sameBlocks t) (h : s.storesCanonical = true) :
    t.storesCanonical = true :=
  storesCanonical_of_same hb.image hb.store h

/-! ### The accesses of the lower agents (R6, R23, R25, R28, R95, R100) -/

theorem storesCanonical_streamWrite {s : State} (h : s.storesCanonical = true) (w : Word) (rest : List Word) :
    (s.streamWrite w rest).storesCanonical = true := by
  unfold State.streamWrite
  dsimp only
  split <;> exact storesCanonical_of_same rfl rfl (storesCanonical_writeTarget h _)

theorem storesCanonical_fillWrite {s : State} (h : s.storesCanonical = true) : s.fillWrite.storesCanonical = true :=
  storesCanonical_of_same rfl rfl (storesCanonical_writeTarget h _)

theorem storesCanonical_loadAccess {s : State} (h : s.storesCanonical = true) : s.loadAccess.storesCanonical = true := by
  unfold State.loadAccess
  split
  · split
    case h_1 | h_2 =>
      split
      · exact storesCanonical_streamWrite h _ _
      · exact h
    case h_3 => exact storesCanonical_of_same (by simp) (by simp) h
    case h_4 => exact storesCanonical_fillWrite h
    all_goals exact h
  · exact h

theorem storesCanonical_loadAccessesUntil (stop : LoadEngine → Bool) (n : Nat) {s : State}
    (h : s.storesCanonical = true) : (State.loadAccessesUntil stop n s).storesCanonical = true := by
  induction n generalizing s with
  | zero => exact h
  | succ n ih =>
    unfold State.loadAccessesUntil
    split
    · exact h
    · exact ih (storesCanonical_loadAccess h)

theorem storesCanonical_serveScanReads {s : State} (h : s.storesCanonical = true) :
    s.serveScanReads.storesCanonical = true :=
  storesCanonical_of_same (by simp) (by simp) h

theorem storesCanonical_serveLoad {s : State} (h : s.storesCanonical = true) (stop : LoadEngine → Bool) (n : Nat) :
    (s.serveLoad stop n).storesCanonical = true := by
  unfold State.serveLoad
  split
  · exact h
  · split
    · exact storesCanonical_loadAccessesUntil stop n (storesCanonical_serveScanReads h)
    · exact h

theorem storesCanonical_jobAccess {s : State} (h : s.storesCanonical = true) : s.jobAccess.storesCanonical = true := by
  unfold State.jobAccess
  split
  · exact h
  · dsimp only
    split
    · split
      · exact storesCanonical_of_same rfl rfl h
      · exact storesCanonical_of_same rfl rfl (storesCanonical_writePixels h _ _ _)
    · exact h

theorem storesCanonical_jobAccesses (n : Nat) {s : State} (h : s.storesCanonical = true) :
    (State.jobAccesses n s).storesCanonical = true := by
  induction n generalizing s with
  | zero => exact h
  | succ n ih => exact ih (storesCanonical_jobAccess h)

theorem storesCanonical_serveJob {s : State} (h : s.storesCanonical = true) : s.serveJob.storesCanonical = true := by
  unfold State.serveJob
  split
  · exact h
  · split
    · exact storesCanonical_jobAccesses _ (storesCanonical_serveScanReads h)
    · exact h

theorem storesCanonical_quadAccess {s : State} (h : s.storesCanonical = true) : s.quadAccess.storesCanonical = true := by
  have hlower : s.lowerAccess.storesCanonical = true := by
    unfold State.lowerAccess
    split
    · exact storesCanonical_loadAccess h
    · exact storesCanonical_jobAccess h
  unfold State.quadAccess
  split
  · exact hlower
  · split
    · exact hlower
    · exact storesCanonical_of_same (by simp) (by simp) h

/-! ### The ends that serve accesses first (log 7) -/

theorem storesCanonical_completeWindow {s : State} (h : s.storesCanonical = true) :
    s.completeWindow.storesCanonical = true :=
  storesCanonical_of_same (by simp) (by simp) h

theorem storesCanonical_endStretchedWrite {s : State} (h : s.storesCanonical = true) :
    s.endStretchedWrite.storesCanonical = true := by
  have hserve := storesCanonical_serveLoad h (fun l => decide (l.fifo.length < Config.fifoPlaces)) 4
  unfold State.endStretchedWrite
  split
  · dsimp only
    split
    · exact storesCanonical_of_same (by simp) (by simp) hserve
    · exact h
  · exact h

theorem storesCanonical_endStretchedRead {s : State} (h : s.storesCanonical = true) :
    s.endStretchedRead.storesCanonical = true := by
  have hserve := storesCanonical_serveLoad h (fun l => !l.fifo.isEmpty) 4
  unfold State.endStretchedRead
  split
  · dsimp only
    split
    · exact storesCanonical_of_same (by simp) (by simp) hserve
    · exact h
  · exact h

theorem storesCanonical_endDrain {s : State} (h : s.storesCanonical = true) : s.endDrain.storesCanonical = true := by
  have hserve := storesCanonical_serveLoad h (fun l => l.fifo.isEmpty) (4 * s.load.fifo.length)
  unfold State.endDrain
  split
  · dsimp only
    split
    · split
      · exact storesCanonical_of_same (by simp) (by simp) hserve
      · exact storesCanonical_completeWindow hserve
    · exact h
  · exact h

theorem storesCanonical_endFill {s : State} (h : s.storesCanonical = true) : s.endFill.storesCanonical = true := by
  unfold State.endFill
  split
  · dsimp only
    split
    · exact storesCanonical_completeWindow (storesCanonical_serveLoad h _ _)
    · exact h
  · exact h

theorem storesCanonical_endSnapshot {s : State} (h : s.storesCanonical = true) :
    s.endSnapshot.storesCanonical = true := by
  unfold State.endSnapshot
  split
  · exact h
  · split
    · exact storesCanonical_of_same rfl rfl (storesCanonical_serveJob h)
    · exact h

theorem storesCanonical_endCommit {s : State} (h : s.storesCanonical = true) : s.endCommit.storesCanonical = true := by
  unfold State.endCommit
  split
  · exact h
  · split
    · exact storesCanonical_of_same (by simp) (by simp) (storesCanonical_serveJob h)
    · exact h

/-! ### Table writes (R38 to R40, R47) -/

theorem storesCanonical_reopenModes (ms : List (Fin 8)) {s : State} (h : s.storesCanonical = true) :
    (s.reopenModes ms).storesCanonical = true := by
  induction ms generalizing s with
  | nil => exact h
  | cons m ms ih =>
    refine ih ?_
    unfold State.reopenMode
    dsimp only
    split <;> exact storesCanonical_congr rfl rfl rfl h

/-- A table write keeps the canonical form if its performing does. -/
theorem storesCanonical_tableWrite {s : State} (h : s.storesCanonical = true) (ms : List (Fin 8)) (f : State → State)
    (hf : (f s).storesCanonical = true) : (s.tableWrite ms f).storesCanonical = true := by
  unfold State.tableWrite
  split
  · exact storesCanonical_of_same (by simp) (by simp) h
  · exact storesCanonical_reopenModes ms hf

theorem storesCanonical_writeDescriptor {s : State} (h : s.storesCanonical = true) (off : Nat) (w : Word) :
    (s.writeDescriptor off w).storesCanonical = true := by
  unfold State.writeDescriptor
  split
  · split
    · exact storesCanonical_tableWrite h _ _ (storesCanonical_congr rfl rfl rfl h)
    · exact h
  · exact h

theorem storesCanonical_writePair {s : State} (h : s.storesCanonical = true) (off : Nat) (w : Word) :
    (s.writePair off w).storesCanonical = true := by
  unfold State.writePair
  split
  · refine storesCanonical_tableWrite h _ _ ?_
    simp only [State.storesCanonical, Bool.and_eq_true] at h ⊢
    obtain ⟨himage, hpairs⟩ := h.1
    exact ⟨⟨himage, Sparse.wf_write _ _ hpairs⟩, h.2⟩
  · exact h

theorem storesCanonical_writeRow {s : State} (h : s.storesCanonical = true) (off : Nat) (w : Word) :
    (s.writeRow off w).storesCanonical = true := by
  unfold State.writeRow
  split
  · refine storesCanonical_tableWrite h _ _ ?_
    simp only [State.storesCanonical, Bool.and_eq_true] at h ⊢
    exact ⟨h.1, Sparse.wf_write _ _ h.2⟩
  · exact h

theorem storesCanonical_tablePortWrite {s : State} (h : s.storesCanonical = true) (w : Word) :
    (s.tablePortWrite w).storesCanonical = true := by
  have hadvance {u : State} (hu : u.storesCanonical = true) : u.advanceIndex.storesCanonical = true :=
    storesCanonical_of_same rfl rfl hu
  refine hadvance ?_
  split
  · exact storesCanonical_writeDescriptor h _ w
  · exact storesCanonical_writePair h _ w
  · exact storesCanonical_writeRow h _ w
  all_goals exact storesCanonical_of_same (by simp) (by simp) h

theorem storesCanonical_endCheck {s : State} (h : s.storesCanonical = true) : s.endCheck.storesCanonical = true := by
  unfold State.endCheck
  split
  · exact h
  · split
    · exact storesCanonical_congr (by simp) (by simp [State.setMode]) (by simp [State.setMode]) h
    · exact storesCanonical_congr rfl rfl rfl h

/-! ### Every command and event -/

theorem storesCanonical_commandEffect {s : State} (h : s.storesCanonical = true) (code : Word) :
    (s.commandEffect code).1.storesCanonical = true := by
  unfold State.commandEffect
  split
  case h_9 =>
    unfold State.modeCheck
    repeat' split
    all_goals exact storesCanonical_congr rfl rfl rfl h
  case h_10 =>
    unfold State.modeErase
    repeat' split
    all_goals exact storesCanonical_congr rfl rfl rfl h
  case h_15 => exact storesCanonical_congr rfl rfl rfl h
  all_goals exact storesCanonical_of_same (by simp) (by simp) h

theorem storesCanonical_writeRegister {s : State} (h : s.storesCanonical = true) (r : Reg) (w : Word) :
    (s.writeRegister r w).storesCanonical = true := by
  cases r with
  | command =>
    have hb : State.storesCanonical { s with bus := { s.bus with command := w } } = true := h
    exact storesCanonical_of_sameBlocks (sameBlocks_commanded s w fun s => s.commandEffect w)
      (storesCanonical_commandEffect hb w)
  | tableData => exact storesCanonical_tablePortWrite h w
  | _ => exact storesCanonical_of_same (by simp [State.writeRegister]) (by simp [State.writeRegister]) h

/-- The effects not named leave the planes and the tables alone. -/
theorem storesCanonical_effect (s : State) (c : Instr) (hc : route c ≠ none) (h : s.storesCanonical = true) :
    (s.effect c).storesCanonical = true := by
  cases hw : registerWriteOf c with
  | some rw => exact effect_of_registerWriteOf hw s ▸ storesCanonical_writeRegister h rw.1 rw.2
  | none =>
    cases c with
    | stretchedWriteComplete => exact storesCanonical_endStretchedWrite h
    | stretchedReadComplete => exact storesCanonical_endStretchedRead h
    | checkEnd => exact storesCanonical_endCheck h
    | quadAccess => exact storesCanonical_quadAccess h
    | drainEnd => exact storesCanonical_endDrain h
    | fillEnd => exact storesCanonical_endFill h
    | snapshotEnd => exact storesCanonical_endSnapshot h
    | commitEnd => exact storesCanonical_endCommit h
    | unknownCommand code =>
      have hb : State.storesCanonical { s with bus := { s.bus with command := code } } = true := h
      exact storesCanonical_of_sameBlocks (sameBlocks_commanded s code State.noCommand) hb
    | vddApplied | pinReset | resetRelease | busAccessInReset => simp [route] at hc
    | _ =>
      exact storesCanonical_of_same (by simp_all [State.effect, registerWriteOf])
        (by simp_all [State.effect, registerWriteOf]) h

theorem storesCanonical_settle {s : State} (h : s.storesCanonical = true) : s.settle.storesCanonical = true :=
  storesCanonical_of_same (by simp) (by simp) h

theorem storesCanonical_redraw (s : State) : s.redraw.storesCanonical = true := rfl

theorem storesCanonical_pinReset {s : State} (h : s.storesCanonical = true) : s.pinReset.storesCanonical = true :=
  storesCanonical_congr (s := s) rfl rfl rfl h

/-- The first half of O56: a step keeps the canonical form, in the undefined phase as well. -/
theorem step_storesCanonical {s t : State} (hs : s.storesCanonical = true) (h : step s = .next t) :
    t.storesCanonical = true := by
  cases step_cases h with
  | kept hb => exact storesCanonical_of_sameBlocks hb hs
  | effect c rest _ hc =>
    have hrest : State.storesCanonical { s with pending := rest } = true := hs
    exact storesCanonical_settle (storesCanonical_effect _ c hc hrest)
  | pinReset u hu =>
    rcases hu with hb | ⟨v, rfl⟩
    · exact storesCanonical_pinReset (storesCanonical_of_sameBlocks hb hs)
    · exact storesCanonical_pinReset (storesCanonical_redraw v)
  | redrawn u b => exact storesCanonical_redraw u

end Sys2Proof.Machine

/-! PROOFS. The capacities of the Request Queue, the Completion Queue and the FIFO over every step (R22, R59, R144). -/

namespace Sys2Proof.Machine

theorem withinCapacity_iff (s : State) :
    s.withinCapacity = true ↔ s.queue.length ≤ 8 ∧ s.completions.length ≤ 16 ∧ s.load.fifo.length ≤ 32 := by
  simp only [State.withinCapacity, Bool.and_eq_true, decide_eq_true_eq, and_assoc]
  rfl


/-- What lengthens none of the three lists keeps their capacities. -/
theorem withinCapacity_mono {s t : State} (h : s.withinCapacity = true) (hq : t.queue.length ≤ s.queue.length)
    (hc : t.completions.length ≤ s.completions.length) (hf : t.load.fifo.length ≤ s.load.fifo.length) :
    t.withinCapacity = true := by
  rw [withinCapacity_iff] at h ⊢
  obtain ⟨h1, h2, h3⟩ := h
  exact ⟨hq.trans h1, hc.trans h2, hf.trans h3⟩

theorem withinCapacity_of_sameBlocks {s t : State} (hb : s.sameBlocks t) (h : s.withinCapacity = true) :
    t.withinCapacity = true :=
  withinCapacity_mono h (by rw [hb.queue]) (by rw [hb.completions]) (by rw [hb.load])

/-! ### The length of the Request Queue -/

@[simp] theorem length_queue_startPass (s : State) : s.startPass.queue.length = s.queue.length := by
  unfold State.startPass
  split <;> simp [State.markDue]

@[simp] theorem length_queue_settle (s : State) : s.settle.queue.length = s.queue.length := by
  unfold State.settle State.endPassIfDone
  repeat' split
  all_goals simp [State.markDue]

@[simp] theorem length_queue_addRecord (s : State) (r : Record) (b : Bool) :
    (s.addRecord r b).queue.length = s.queue.length := by
  unfold State.addRecord
  dsimp only
  split <;> simp [State.clearAfterTags]

@[simp] theorem length_completions_addRecord (s : State) (r : Record) (b : Bool) :
    (s.addRecord r b).completions.length = s.completions.length + 1 := by
  unfold State.addRecord
  dsimp only
  split <;> simp

@[simp] theorem length_queue_setEntryState (s : State) (i : Nat) (st : EntryState) :
    (s.setEntryState i st).queue.length = s.queue.length := by
  simp [State.setEntryState]

@[simp] theorem length_queue_withdrawAll (s : State) : s.withdrawAll.queue.length = s.queue.length := by
  simp [State.withdrawAll]

/-- A removal takes at most one entry away. -/
theorem length_queue_removeEntry_le (s : State) (i : Nat) : (s.removeEntry i).queue.length ≤ s.queue.length := by
  unfold State.removeEntry
  dsimp only
  split
  · split <;> exact List.length_eraseIdx_le ..
  · exact List.length_eraseIdx_le ..

@[simp] theorem fifo_removeEntry (s : State) (i : Nat) : (s.removeEntry i).load.fifo = s.load.fifo := by
  unfold State.removeEntry
  dsimp only
  split
  · split <;> rfl
  · rfl

@[simp] theorem length_queue_enterOn (s : State) : s.enterOn.queue.length = s.queue.length := by
  simp [State.enterOn]

@[simp] theorem length_queue_enterRising (s : State) : s.enterRising.queue.length = s.queue.length := by
  unfold State.enterRising
  dsimp only
  split <;> simp

@[simp] theorem length_queue_enterOff (s : State) : s.enterOff.queue.length = s.queue.length := by
  unfold State.enterOff
  dsimp only
  split <;> simp

@[simp] theorem length_queue_wakeRequest (s : State) : s.wakeRequest.queue.length = s.queue.length := by
  unfold State.wakeRequest
  split <;> simp

/-! ### Posts (R71, R106, R145, R146) -/

/-- A post is taken into a free place of the Completion Queue. -/
theorem withinCapacity_takePost {s : State} (h : s.withinCapacity = true) (hroom : s.completions.length < 16)
    (p : Poster) : (s.takePost p).withinCapacity = true := by
  have hs := (withinCapacity_iff s).mp h
  cases p with
  | slot n =>
    simp only [State.takePost, State.takeSlotPost]
    split
    · exact h
    · rw [withinCapacity_iff]
      simp
      omega
  | entry t =>
    simp only [State.takePost, State.takeEntryPost]
    split
    · exact h
    · split
      · exact h
      · rename_i i _ _ e _
        have hremove := length_queue_removeEntry_le (s.addRecord (e.record s.frame.counter) false) i
        rw [length_queue_addRecord] at hremove
        split <;>
        · rw [withinCapacity_iff]
          simp
          omega

theorem withinCapacity_offer {s : State} (h : s.withinCapacity = true) (p : Poster) :
    (s.offer p).withinCapacity = true := by
  unfold State.offer
  split
  · rename_i hroom
    exact withinCapacity_takePost h hroom p
  · exact withinCapacity_mono h (le_refl _) (le_refl _) (le_refl _)

theorem withinCapacity_offerEntries {s : State} (h : s.withinCapacity = true) (ts : List Tag) :
    (s.offerEntries ts).withinCapacity = true := by
  induction ts generalizing s with
  | nil => exact h
  | cons t ts ih => exact ih (withinCapacity_offer h _)

theorem withinCapacity_cutSlot {s : State} (h : s.withinCapacity = true) (n : Fin 16) (o : SlotOutcome) :
    (s.cutSlot n o).withinCapacity = true := by
  unfold State.cutSlot
  split
  case h_1 | h_2 =>
    refine withinCapacity_offer ?_ _
    exact withinCapacity_mono h (le_refl _) (le_refl _) (le_refl _)
  all_goals exact h

theorem withinCapacity_cutSlots {s : State} (h : s.withinCapacity = true) (o : SlotOutcome) (ns : List (Fin 16)) :
    (s.cutSlots o ns).withinCapacity = true := by
  induction ns generalizing s with
  | nil => exact h
  | cons n ns ih => exact ih (withinCapacity_cutSlot h n o)

/-! ### Requests (R61, R62, R67, R70, R77, R148) -/

/-- A request is accepted only where the queue has a place. -/
theorem length_queue_of_accepted {s : State} {q : Request} (h : s.checkRequest q = .accepted) : s.queue.length < 8 := by
  unfold State.checkRequest at h
  repeat' split at h
  all_goals cases h
  exact Nat.not_le.mp ‹_›

theorem withinCapacity_acceptRequest {s : State} (h : s.withinCapacity = true) {q : Request}
    (hq : s.checkRequest q = .accepted) : (s.acceptRequest q).withinCapacity = true := by
  have hroom := length_queue_of_accepted hq
  unfold State.acceptRequest
  split
  · exact h
  · rw [withinCapacity_iff] at h ⊢
    simp
    omega

theorem withinCapacity_submit {s : State} (h : s.withinCapacity = true) : s.submit.1.withinCapacity = true := by
  unfold State.submit State.offerRequest
  split
  · exact withinCapacity_acceptRequest h ‹_›
  · exact h

theorem withinCapacity_cancelTag {s : State} (h : s.withinCapacity = true) (t : Tag) :
    (s.cancelTag t).1.withinCapacity = true := by
  unfold State.cancelTag
  split
  · exact h
  · split
    · split
      · split
        · exact withinCapacity_offer (withinCapacity_mono h (by simp) (by simp) (by simp)) _
        · exact h
      · exact h
    · split
      · split
        · exact withinCapacity_cutSlot h _ _
        · exact h
      · exact h

theorem withinCapacity_cancelAll {s : State} (h : s.withinCapacity = true) : s.cancelAll.1.withinCapacity = true := by
  have hcut : ((s.withdrawAll.offerEntries s.waitingTags).cutSlots .cancelled slotNumbers).withinCapacity = true :=
    withinCapacity_cutSlots (withinCapacity_offerEntries (withinCapacity_mono h (by simp) (by simp) (by simp)) _) _ _
  unfold State.cancelAll
  dsimp only
  split
  · exact hcut
  · exact withinCapacity_mono hcut (by simp) (by simp) (by simp)

/-- The place that POP frees is the one that the oldest waiting poster's post takes (R148). -/
theorem withinCapacity_popRecord {s : State} (h : s.withinCapacity = true) : s.popRecord.1.withinCapacity = true := by
  unfold State.popRecord
  split
  · exact h
  · rename_i rest hcomp
    have hrest : rest.length < 16 := by
      rw [withinCapacity_iff, hcomp, List.length_cons] at h
      omega
    have hpop (ps : List Poster) : State.withinCapacity { s with completions := rest, posters := ps } = true :=
      withinCapacity_mono h (le_refl _) (by simp [hcomp]) (le_refl _)
    dsimp only
    split
    · exact hpop s.posters
    · rename_i p ps _
      exact withinCapacity_takePost (hpop ps) hrest p

theorem withinCapacity_startRegion {s : State} (h : s.withinCapacity = true) (i : Nat) (n : Fin 16) (sl : Slot) :
    (s.startRegion i n sl).withinCapacity = true :=
  withinCapacity_mono h (length_queue_removeEntry_le _ i) (by simp) (by simp [State.startRegion])

theorem withinCapacity_reject {s : State} (h : s.withinCapacity = true) (i : Nat) (e : Entry) (r : RejectReason) :
    (s.reject i e r).withinCapacity = true :=
  withinCapacity_offer (withinCapacity_mono h (by simp) (by simp) (by simp)) _

theorem withinCapacity_examine {s : State} (h : s.withinCapacity = true) (i : Nat) (e : Entry) :
    (s.examine i e).withinCapacity = true := by
  have hq : (s.reached i).withinCapacity = true :=
    withinCapacity_mono h (by simp [State.reached]) (le_refl _) (le_refl _)
  rcases examine_cases s i e with hx | hx | ⟨b, n, -, -, hx⟩
  · rw [hx]
    exact hq
  · rw [hx]
    exact withinCapacity_mono hq (by simp) (by simp) (by simp)
  · rw [hx]
    rcases decideEntry_cases (s.reached i) i e b n with ⟨r, hd⟩ | ⟨sl, -, hd⟩
    · rw [hd]
      exact withinCapacity_reject hq i e r
    · rw [hd]
      exact withinCapacity_startRegion hq i n sl

theorem withinCapacity_examineNext {s : State} (h : s.withinCapacity = true) : s.examineNext.withinCapacity = true := by
  rcases examineNext_cases s with hx | ⟨i, e, hx⟩
  · rw [hx]
    exact h
  · rw [hx]
    exact withinCapacity_examine h i e

/-! ### The FIFO (R22 to R26, R29 to R32) -/

theorem withinCapacity_endWindow {s : State} (h : s.withinCapacity = true) (r : EndReason) :
    (s.endWindow r).withinCapacity = true :=
  withinCapacity_mono h (by simp) (by simp) (Nat.zero_le _)

theorem withinCapacity_present {s : State} (h : s.withinCapacity = true) : s.present.withinCapacity = true := by
  unfold State.present
  split
  · exact withinCapacity_endWindow (withinCapacity_acceptRequest h ‹_›) _
  · exact withinCapacity_mono h (le_refl _) (le_refl _) (le_refl _)
  · exact withinCapacity_mono h (le_refl _) (le_refl _) (Nat.zero_le _)

theorem withinCapacity_completeWindow {s : State} (h : s.withinCapacity = true) :
    s.completeWindow.withinCapacity = true := by
  unfold State.completeWindow
  split
  · exact withinCapacity_present h
  · exact withinCapacity_endWindow h _

theorem withinCapacity_presentAgain {s : State} (h : s.withinCapacity = true) :
    s.presentAgain.withinCapacity = true := by
  unfold State.presentAgain
  split
  · exact withinCapacity_present (withinCapacity_mono h (le_refl _) (le_refl _) (le_refl _))
  · exact h

theorem withinCapacity_receiveWord {s : State} (h : s.withinCapacity = true) (hroom : s.load.fifo.length < 32) (w : Word) :
    (s.receiveWord w).withinCapacity = true := by
  rw [withinCapacity_iff] at h ⊢
  simp [State.receiveWord]
  omega

theorem withinCapacity_deliverWord {s : State} (h : s.withinCapacity = true) {w : Word} {rest : List Word}
    (hf : s.load.fifo = w :: rest) : (s.deliverWord w rest).withinCapacity = true := by
  have hrest : State.withinCapacity { s with
      bus := { s.bus with busData := w },
      load := { s.load with fifo := rest, streamCount := s.load.streamCount - 1 } } = true :=
    withinCapacity_mono h (le_refl _) (le_refl _) (by simp [hf])
  unfold State.deliverWord
  dsimp only
  split
  · exact withinCapacity_endWindow hrest _
  · exact hrest

theorem withinCapacity_writeStream {s : State} (h : s.withinCapacity = true) (w : Word) :
    (s.writeStream w).withinCapacity = true := by
  unfold State.writeStream
  split
  · split
    · exact withinCapacity_receiveWord h ‹_› w
    · exact withinCapacity_mono h (le_refl _) (le_refl _) (le_refl _)
  · exact withinCapacity_mono h (le_refl _) (le_refl _) (le_refl _)

theorem withinCapacity_readStream {s : State} (h : s.withinCapacity = true) : s.readStream.withinCapacity = true := by
  unfold State.readStream
  split
  · split
    · exact withinCapacity_deliverWord h ‹_›
    · exact withinCapacity_mono h (le_refl _) (le_refl _) (le_refl _)
  · exact withinCapacity_mono h (le_refl _) (le_refl _) (le_refl _)

theorem withinCapacity_streamWrite {s : State} (h : s.withinCapacity = true) {w : Word} {rest : List Word}
    (hf : s.load.fifo = w :: rest) : (s.streamWrite w rest).withinCapacity = true := by
  unfold State.streamWrite
  dsimp only
  split
  · exact withinCapacity_mono h (by simp) (by simp) (by simp [hf])
  · exact withinCapacity_mono h (by simp) (by simp) (by simp)

/-- A prefetch, which waits for a place in the FIFO, adds at most one word. -/
theorem withinCapacity_prefetchRead {s : State} (h : s.withinCapacity = true) (hroom : s.load.fifo.length < 32) :
    s.prefetchRead.withinCapacity = true := by
  rw [withinCapacity_iff] at h ⊢
  unfold State.prefetchRead
  dsimp only
  split
  · simp
    omega
  · exact h

theorem withinCapacity_loadAccess {s : State} (h : s.withinCapacity = true) : s.loadAccess.withinCapacity = true := by
  unfold State.loadAccess
  split
  · rename_i hwait
    split
    case h_1 | h_2 =>
      split
      · exact withinCapacity_streamWrite h ‹_›
      · exact h
    case h_3 hst =>
      simp only [LoadEngine.waiting, hst, Bool.and_eq_true, decide_eq_true_eq] at hwait
      exact withinCapacity_prefetchRead h hwait.2
    case h_4 => exact withinCapacity_mono h (by simp) (by simp) (by simp [State.fillWrite])
    all_goals exact h
  · exact h

theorem withinCapacity_loadAccessesUntil (stop : LoadEngine → Bool) (n : Nat) {s : State}
    (h : s.withinCapacity = true) : (State.loadAccessesUntil stop n s).withinCapacity = true := by
  induction n generalizing s with
  | zero => exact h
  | succ n ih =>
    unfold State.loadAccessesUntil
    split
    · exact h
    · exact ih (withinCapacity_loadAccess h)

theorem withinCapacity_serveLoad {s : State} (h : s.withinCapacity = true) (stop : LoadEngine → Bool) (n : Nat) :
    (s.serveLoad stop n).withinCapacity = true := by
  unfold State.serveLoad
  split
  · exact h
  · split
    · exact withinCapacity_loadAccessesUntil stop n (withinCapacity_mono h (by simp) (by simp) (by simp))
    · exact h

theorem withinCapacity_quadAccess {s : State} (h : s.withinCapacity = true) : s.quadAccess.withinCapacity = true := by
  have hlower : s.lowerAccess.withinCapacity = true := by
    unfold State.lowerAccess
    split
    · exact withinCapacity_loadAccess h
    · exact withinCapacity_mono h (by simp) (by simp) (by simp)
  unfold State.quadAccess
  split
  · exact hlower
  · split
    · exact hlower
    · exact withinCapacity_mono h (by simp) (by simp) (by simp)

theorem withinCapacity_endStretchedWrite {s : State} (h : s.withinCapacity = true) :
    s.endStretchedWrite.withinCapacity = true := by
  unfold State.endStretchedWrite
  split
  · dsimp only
    split
    · rename_i hroom
      exact withinCapacity_receiveWord
        (s := { s.serveLoad _ _ with bus := { (s.serveLoad _ _).bus with stretched := none } })
        (withinCapacity_serveLoad h _ _) hroom _
    · exact h
  · exact h

theorem withinCapacity_endStretchedRead {s : State} (h : s.withinCapacity = true) :
    s.endStretchedRead.withinCapacity = true := by
  unfold State.endStretchedRead
  split
  · dsimp only
    split
    · rename_i hfifo
      exact withinCapacity_deliverWord
        (s := { s.serveLoad _ _ with bus := { (s.serveLoad _ _).bus with stretched := none } })
        (withinCapacity_serveLoad h _ _) hfifo
    · exact h
  · exact h

theorem withinCapacity_endDrain {s : State} (h : s.withinCapacity = true) : s.endDrain.withinCapacity = true := by
  have hserve := withinCapacity_serveLoad h (fun l => l.fifo.isEmpty) (4 * s.load.fifo.length)
  unfold State.endDrain
  split
  · dsimp only
    split
    · split
      · exact withinCapacity_endWindow hserve _
      · exact withinCapacity_completeWindow hserve
    · exact h
  · exact h

theorem withinCapacity_endFill {s : State} (h : s.withinCapacity = true) : s.endFill.withinCapacity = true := by
  unfold State.endFill
  split
  · dsimp only
    split
    · exact withinCapacity_completeWindow (withinCapacity_serveLoad h _ _)
    · exact h
  · exact h

theorem withinCapacity_endCommit {s : State} (h : s.withinCapacity = true) : s.endCommit.withinCapacity = true := by
  unfold State.endCommit
  split
  · exact h
  · split
    · exact withinCapacity_offer (withinCapacity_mono h (by simp) (by simp) (by simp)) _
    · exact h

/-! ### Every command and event -/

/-- A window that opens finds the FIFO empty (R21, R27). -/
theorem withinCapacity_of_fifo_nil {s t : State} (h : s.withinCapacity = true) (hq : t.queue = s.queue)
    (hc : t.completions = s.completions) (hf : t.load.fifo = []) : t.withinCapacity = true :=
  withinCapacity_mono h (by rw [hq]) (by rw [hc]) (by simp [hf])

theorem withinCapacity_loadOpen {s : State} (h : s.withinCapacity = true) : s.loadOpen.1.withinCapacity = true := by
  unfold State.loadOpen
  split
  · exact h
  · split
    · exact h
    · split
      · split
        · exact withinCapacity_of_fifo_nil h rfl rfl rfl
        · split
          · exact withinCapacity_of_fifo_nil h rfl rfl rfl
          · exact h
      · exact h

theorem withinCapacity_startFill {s : State} (h : s.withinCapacity = true) : s.startFill.1.withinCapacity = true := by
  unfold State.startFill
  split
  · exact h
  · split
    · exact h
    · exact withinCapacity_of_fifo_nil h rfl rfl rfl

theorem withinCapacity_loadClose {s : State} (h : s.withinCapacity = true) : s.loadClose.1.withinCapacity = true := by
  unfold State.loadClose
  split
  · split
    · exact withinCapacity_endWindow h _
    · exact withinCapacity_mono h (le_refl _) (le_refl _) (le_refl _)
  · exact h
  · exact h
  · exact withinCapacity_endWindow h _
  · exact withinCapacity_endWindow h _
  · exact h

theorem withinCapacity_commandEffect {s : State} (h : s.withinCapacity = true) (code : Word) :
    (s.commandEffect code).1.withinCapacity = true := by
  unfold State.commandEffect
  split
  case h_1 => exact withinCapacity_submit h
  case h_2 => exact withinCapacity_cancelTag h _
  case h_3 => exact withinCapacity_cancelAll h
  case h_4 => exact withinCapacity_popRecord h
  case h_5 => exact withinCapacity_loadOpen h
  case h_6 => exact withinCapacity_loadClose h
  case h_7 => exact withinCapacity_startFill h
  case h_8 =>
    unfold State.tileSet
    dsimp only
    repeat' split
    all_goals exact withinCapacity_mono h (by simp) (by simp) (by simp)
  case h_11 =>
    unfold State.powerUp
    repeat' split
    all_goals exact withinCapacity_mono h (by simp) (by simp) (by simp)
  case h_13 =>
    unfold State.clearFault
    split <;> exact withinCapacity_mono h (by simp) (by simp) (by simp)
  case h_15 => exact withinCapacity_mono h (Nat.zero_le _) (Nat.zero_le _) (Nat.zero_le _)
  all_goals exact withinCapacity_mono h (by simp) (by simp) (by simp)

theorem withinCapacity_writeRegister {s : State} (h : s.withinCapacity = true) (r : Reg) (w : Word) :
    (s.writeRegister r w).withinCapacity = true := by
  cases r with
  | command =>
    have hb : State.withinCapacity { s with bus := { s.bus with command := w } } = true := h
    exact withinCapacity_of_sameBlocks (sameBlocks_commanded s w fun s => s.commandEffect w)
      (withinCapacity_commandEffect hb w)
  | control =>
    simp only [State.writeRegister, State.writeControl]
    split <;> exact withinCapacity_mono h (by simp) (by simp) (by simp)
  | policy =>
    exact withinCapacity_mono h (by simp [State.writeRegister, State.writePolicy]) (by simp [State.writeRegister])
      (by simp [State.writeRegister])
  | loadData => exact withinCapacity_writeStream h w
  | _ =>
    exact withinCapacity_mono h (by simp [State.writeRegister]) (by simp [State.writeRegister])
      (by simp [State.writeRegister])

theorem withinCapacity_fallOfPgood {s : State} (h : s.withinCapacity = true) : s.fallOfPgood.withinCapacity = true := by
  unfold State.fallOfPgood
  dsimp only
  split
  case h_1 | h_2 =>
    refine withinCapacity_cutSlots ?_ _ _
    exact withinCapacity_mono h (by simp) (by simp) (by simp)
  all_goals exact withinCapacity_mono h (le_refl _) (le_refl _) (le_refl _)

@[simp] theorem length_queue_riseOfPgood (s : State) : s.riseOfPgood.queue.length = s.queue.length := by
  unfold State.riseOfPgood
  dsimp only
  split <;> simp

@[simp] theorem length_queue_expireFall (s : State) : s.expireFall.queue.length = s.queue.length := by
  unfold State.expireFall
  repeat' split
  all_goals simp

@[simp] theorem length_queue_endConversion (s : State) (c : BitVec 10) :
    (s.endConversion c).queue.length = s.queue.length := by
  unfold State.endConversion
  dsimp only
  repeat' split
  all_goals simp

@[simp] theorem length_queue_endCheck (s : State) : s.endCheck.queue.length = s.queue.length := by
  unfold State.endCheck
  dsimp only
  repeat' split
  all_goals simp [State.setMode]

/-- The effects not named lengthen none of the three lists. -/
theorem withinCapacity_effect (s : State) (c : Instr) (hc : route c ≠ none) (h : s.withinCapacity = true) :
    (s.effect c).withinCapacity = true := by
  cases hw : registerWriteOf c with
  | some rw => exact effect_of_registerWriteOf hw s ▸ withinCapacity_writeRegister h rw.1 rw.2
  | none =>
    cases c with
    | loadDataRead port => exact withinCapacity_readStream h
    | stretchedWriteComplete => exact withinCapacity_endStretchedWrite h
    | stretchedReadComplete => exact withinCapacity_endStretchedRead h
    | pgoodFall => exact withinCapacity_fallOfPgood h
    | quadAccess => exact withinCapacity_quadAccess h
    | drainEnd => exact withinCapacity_endDrain h
    | fillEnd => exact withinCapacity_endFill h
    | commitEnd => exact withinCapacity_endCommit h
    | entryExamination => exact withinCapacity_examineNext h
    | autoPresentationRetry => exact withinCapacity_presentAgain h
    | unknownCommand code =>
      have hb : State.withinCapacity { s with bus := { s.bus with command := code } } = true := h
      exact withinCapacity_of_sameBlocks (sameBlocks_commanded s code State.noCommand) hb
    | vddApplied | pinReset | resetRelease | busAccessInReset => simp [route] at hc
    | _ =>
      exact withinCapacity_mono h (by simp_all [State.effect, registerWriteOf])
        (by simp_all [State.effect, registerWriteOf]) (by simp_all [State.effect, registerWriteOf])

theorem withinCapacity_settle {s : State} (h : s.withinCapacity = true) : s.settle.withinCapacity = true :=
  withinCapacity_mono h (by simp) (by simp) (by simp)

theorem withinCapacity_pinReset (s : State) : s.pinReset.withinCapacity = true := rfl

theorem step_withinCapacity {s t : State} (hs : s.phase = .undefined ∨ s.withinCapacity = true)
    (h : step s = .next t) : t.phase = .undefined ∨ t.withinCapacity = true :=
  step_keeps (P := fun s => s.withinCapacity = true) withinCapacity_of_sameBlocks withinCapacity_pinReset
    withinCapacity_effect (fun _ => withinCapacity_settle) hs h

end Sys2Proof.Machine

/-! PROOFS. The ranges of the configuration fields (R16, R156) and the size and counts of the tile map (R11) over every
step, and O56. -/

namespace Sys2Proof.Machine

/-! ### Configuration fields -/

theorem le_clamp {lo hi : Nat} (h : lo ≤ hi) (v : Nat) : lo ≤ clamp lo hi v := by
  unfold clamp
  split
  · exact le_refl lo
  · split <;> omega

theorem clamp_le {lo hi : Nat} (h : lo ≤ hi) (v : Nat) : clamp lo hi v ≤ hi := by
  unfold clamp
  split
  · exact h
  · split <;> omega

/-- A configuration register takes a value clamped to its range (R156). -/
theorem inRange_writePlain {s : State} (h : s.config.inRange = true) (r : Reg) (w : Word) :
    (s.writePlain r w).config.inRange = true := by
  cases r with
  | frameTime | powerTimes | frameCounts | scanTemp =>
    simp only [ConfigRegs.inRange, Bool.and_eq_true, decide_eq_true_eq] at h ⊢
    simp_all [State.writePlain, le_clamp, clamp_le]
  | _ => exact h

theorem inRange_writePolicy {s : State} (h : s.config.inRange = true) (w : Word) :
    (s.writePolicy w).config.inRange = true := by
  simp only [ConfigRegs.inRange, Bool.and_eq_true, decide_eq_true_eq] at h ⊢
  simp_all [State.writePolicy, clamp_le]

/-- A geometry register takes a programmable value alone (R16). -/
theorem inRange_writeGeometry {s : State} (h : s.config.inRange = true) (axis : PanelAxis) (w : Word) :
    (s.writeGeometry axis w).config.inRange = true := by
  unfold State.writeGeometry
  split
  · rename_i hq
    simp only [ConfigRegs.inRange, Bool.and_eq_true, decide_eq_true_eq] at h ⊢
    simp only [Bool.and_eq_true] at hq
    cases axis <;> simp_all [State.takeGeometry]
  · exact h

theorem inRange_writeRegister {s : State} (h : s.config.inRange = true) (r : Reg) (w : Word) :
    (s.writeRegister r w).config.inRange = true := by
  cases r with
  | command =>
    have hc : (s.writeRegister .command w).config = s.config := by
      rw [State.writeRegister, (sameBlocks_commanded s w fun s => s.commandEffect w).config]
      simp
    rw [hc]
    exact h
  | policy => exact inRange_writePolicy h w
  | panelW => exact inRange_writeGeometry h .width w
  | panelH => exact inRange_writeGeometry h .height w
  | control | event | eventMask | loadData | tableData => simpa [State.writeRegister] using h
  | _ => exact inRange_writePlain h _ w

/-- No event writes a configuration field. -/
theorem inRange_effect (s : State) (c : Instr) (hc : route c ≠ none) (h : s.config.inRange = true) :
    (s.effect c).config.inRange = true := by
  cases hw : registerWriteOf c with
  | some rw => exact effect_of_registerWriteOf hw s ▸ inRange_writeRegister h rw.1 rw.2
  | none =>
    cases c with
    | unknownCommand code => exact h
    | vddApplied | pinReset | resetRelease | busAccessInReset => simp [route] at hc
    | _ => simp_all [State.effect, registerWriteOf]

theorem inRange_reset : ConfigRegs.reset.inRange = true := by decide

theorem step_inRange {s t : State} (hs : s.phase = .undefined ∨ s.config.inRange = true) (h : step s = .next t) :
    t.phase = .undefined ∨ t.config.inRange = true :=
  step_keeps (P := fun s => s.config.inRange = true) (fun hb h => hb.config ▸ h) (fun _ => inRange_reset) inRange_effect
    (fun s h => by simpa using h) hs h

/-! ### The tile map -/

theorem tileMapFits_iff (s : State) :
    s.tileMapFits = true ↔
      s.tiles.length = tileCount s.config.panelW s.config.panelH ∧ ∀ t ∈ s.tiles, t.count ≤ 15 := by
  simp [State.tileMapFits]

theorem tileMapFits_of_same {s t : State} (h : s.tileMapFits = true) (ht : t.tiles = s.tiles)
    (hw : t.config.panelW = s.config.panelW) (hh : t.config.panelH = s.config.panelH) : t.tileMapFits = true := by
  simpa only [State.tileMapFits, ht, hw, hh] using h

theorem tileMapFits_of_sameBlocks {s t : State} (hb : s.sameBlocks t) (h : s.tileMapFits = true) :
    t.tileMapFits = true :=
  tileMapFits_of_same h hb.tiles (by rw [hb.config]) (by rw [hb.config])

/-- A rewriting of the records that keeps every count to 15 keeps the map. -/
theorem tileMapFits_map {s t : State} (h : s.tileMapFits = true) (hc : t.config = s.config)
    {f : Nat → Tile → Tile} (ht : ∀ k, t.tiles[k]? = s.tiles[k]?.map (f k))
    (hf : ∀ k u, u.count ≤ 15 → (f k u).count ≤ 15) : t.tileMapFits = true := by
  obtain ⟨hlen, hcount⟩ := (tileMapFits_iff s).mp h
  refine (tileMapFits_iff t).mpr ⟨?_, fun u hu => ?_⟩
  · have hnone (k : Nat) : t.tiles.length ≤ k ↔ s.tiles.length ≤ k := by
      rw [← List.getElem?_eq_none_iff, ← List.getElem?_eq_none_iff, ht, Option.map_eq_none_iff]
    rw [hc, ← hlen]
    exact le_antisymm ((hnone _).mpr (le_refl _)) ((hnone _).mp (le_refl _))
  · obtain ⟨k, hk⟩ := List.mem_iff_getElem?.mp hu
    rw [ht, Option.map_eq_some_iff] at hk
    obtain ⟨v, hv, rfl⟩ := hk
    exact hf k v (hcount v (List.mem_of_getElem? hv))

theorem tileMapFits_updateClaimed {s : State} (h : s.tileMapFits = true) (r : Rect) {f : Nat → Tile → Tile}
    (hf : ∀ k u, u.count ≤ 15 → (f k u).count ≤ 15) : (s.updateClaimed r f).tileMapFits = true := by
  refine tileMapFits_map h rfl (tiles_updateClaimed s r f) fun k u hu => ?_
  split
  · exact hf k u hu
  · exact hu

theorem tileMapFits_releaseTiles {s : State} (h : s.tileMapFits = true) (n : Fin 16) :
    (s.releaseTiles n).tileMapFits = true := by
  refine tileMapFits_map h rfl (tiles_releaseTiles s n) fun _ u hu => ?_
  split <;> exact hu

/-- The count of a tile stops at 15 (R13). -/
theorem count_commitTile_le (flash : Bool) (r : Rect) (w n : Nat) (t : Tile) (ht : t.count ≤ 15) :
    (commitTile flash r w n t).count ≤ 15 := by
  unfold commitTile
  split
  · split
    · exact Nat.zero_le 15
    · exact ht
  · unfold Tile.wear
    dsimp only
    split <;> omega

theorem tileMapFits_takePost {s : State} (h : s.tileMapFits = true) (p : Poster) : (s.takePost p).tileMapFits = true := by
  cases p with
  | entry t => exact tileMapFits_of_same h (by simp [State.takePost]) (by simp) (by simp)
  | slot n =>
    simp only [State.takePost, State.takeSlotPost]
    split
    · exact h
    · rename_i o _
      have hadd := tileMapFits_of_same (t := s.addRecord ((s.slot n).record o s.frame.counter) (s.slot n).notify) h
        (by simp) (by simp) (by simp)
      exact tileMapFits_of_same (tileMapFits_releaseTiles hadd n) (by simp) (by simp) (by simp)

theorem tileMapFits_offer {s : State} (h : s.tileMapFits = true) (p : Poster) : (s.offer p).tileMapFits = true := by
  unfold State.offer
  split
  · exact tileMapFits_takePost h p
  · exact tileMapFits_of_same h rfl rfl rfl

theorem tileMapFits_offerEntries {s : State} (h : s.tileMapFits = true) (ts : List Tag) :
    (s.offerEntries ts).tileMapFits = true := by
  induction ts generalizing s with
  | nil => exact h
  | cons t ts ih => exact ih (tileMapFits_offer h _)

theorem tileMapFits_endSlot {s : State} (h : s.tileMapFits = true) (n : Fin 16) (o : SlotOutcome) :
    (s.endSlot n o).tileMapFits = true :=
  tileMapFits_offer (s := s.setSlot n { s.slot n with state := .ending, outcome := some o }) h _

theorem tileMapFits_cutSlot {s : State} (h : s.tileMapFits = true) (n : Fin 16) (o : SlotOutcome) :
    (s.cutSlot n o).tileMapFits = true := by
  unfold State.cutSlot
  split
  case h_1 => exact tileMapFits_endSlot (s := s.abandonSnapshot n) h n o
  case h_2 =>
    refine tileMapFits_endSlot ?_ n o
    exact tileMapFits_updateClaimed (s := s.leavePlan n) h _ fun _ _ hu => hu
  all_goals exact h

theorem tileMapFits_cutSlots {s : State} (h : s.tileMapFits = true) (o : SlotOutcome) (ns : List (Fin 16)) :
    (s.cutSlots o ns).tileMapFits = true := by
  induction ns generalizing s with
  | nil => exact h
  | cons n ns ih => exact ih (tileMapFits_cutSlot h n o)

theorem tileMapFits_cancelTag {s : State} (h : s.tileMapFits = true) (t : Tag) : (s.cancelTag t).1.tileMapFits = true := by
  unfold State.cancelTag
  split
  · exact h
  · split
    · split
      · split
        · exact tileMapFits_of_same h (by simp) (by simp) (by simp)
        · exact h
      · exact h
    · split
      · split
        · exact tileMapFits_cutSlot h _ _
        · exact h
      · exact h

theorem tileMapFits_cancelAll {s : State} (h : s.tileMapFits = true) : s.cancelAll.1.tileMapFits = true := by
  have hcut : ((s.withdrawAll.offerEntries s.waitingTags).cutSlots .cancelled slotNumbers).tileMapFits = true :=
    tileMapFits_cutSlots (tileMapFits_offerEntries (s := s.withdrawAll) h _) _ _
  unfold State.cancelAll
  dsimp only
  split
  · exact hcut
  · exact tileMapFits_of_same hcut (by simp) (by simp) (by simp)

theorem tileMapFits_popRecord {s : State} (h : s.tileMapFits = true) : s.popRecord.1.tileMapFits = true := by
  unfold State.popRecord
  split
  · exact h
  · rename_i rest _
    dsimp only
    split
    · exact h
    · rename_i p ps _
      exact tileMapFits_takePost (s := { s with completions := rest, posters := ps }) h p

theorem tileMapFits_tileSet {s : State} (h : s.tileMapFits = true) : s.tileSet.1.tileMapFits = true := by
  unfold State.tileSet
  split
  · exact h
  · split
    · exact h
    · have hset := tileMapFits_updateClaimed h s.argRect
        (f := fun _ t => if bitOf (s.arg 4) 0 then t.makeKnown else t.makeUnknown) fun _ u hu => by
          split
          · exact Nat.zero_le 15
          · exact hu
      have hpass {u : State} (hu : u.tileMapFits = true) :
          (if u.tiles = s.tiles then u else u.startPass).tileMapFits = true := by
        split
        · exact hu
        · exact tileMapFits_of_same hu (by simp) (by simp) (by simp)
      exact hpass hset

theorem tileMapFits_softReset {s : State} (h : s.tileMapFits = true) : s.softReset.tileMapFits = true := by
  refine tileMapFits_map (f := fun _ t => s.softResetTile t) h rfl (fun k => by simp [State.softReset]) fun _ u hu => ?_
  unfold State.softResetTile
  split
  · exact hu
  · split <;> exact hu

/-- The record of a taken geometry fits it (R17). -/
theorem tileMapFits_takeGeometry (s : State) (axis : PanelAxis) (v : Nat) : (s.takeGeometry axis v).tileMapFits = true := by
  refine (tileMapFits_iff _).mpr ⟨List.length_replicate, fun t ht => ?_⟩
  rw [List.eq_of_mem_replicate ht]
  exact Nat.zero_le 15

theorem tileMapFits_pinReset (s : State) : s.pinReset.tileMapFits = true := by
  have htiles : s.pinReset.tiles = List.replicate (tileCount 1024 768) Tile.blank := rfl
  refine (tileMapFits_iff _).mpr ⟨htiles ▸ List.length_replicate, fun t ht => ?_⟩
  rw [htiles] at ht
  rw [List.eq_of_mem_replicate ht]
  exact Nat.zero_le 15

theorem tileMapFits_startRegion {s : State} (h : s.tileMapFits = true) (i : Nat) (n : Fin 16) (sl : Slot) :
    (s.startRegion i n sl).tileMapFits = true := by
  have hclaim : (s.claimedStart n sl).tileMapFits = true := tileMapFits_updateClaimed h sl.rect fun _ _ hu => hu
  rw [startRegion_eq]
  exact tileMapFits_of_same hclaim (by simp) (by simp) (by simp)

theorem tileMapFits_examine {s : State} (h : s.tileMapFits = true) (i : Nat) (e : Entry) :
    (s.examine i e).tileMapFits = true := by
  have hq : (s.reached i).tileMapFits = true := h
  rcases examine_cases s i e with hx | hx | ⟨b, n, -, -, hx⟩
  · rw [hx]
    exact hq
  · rw [hx]
    exact tileMapFits_of_same hq (by simp) (by simp) (by simp)
  · rw [hx]
    rcases decideEntry_cases (s.reached i) i e b n with ⟨r, hd⟩ | ⟨sl, -, hd⟩
    · rw [hd]
      exact tileMapFits_of_same hq (by simp) (by simp) (by simp)
    · rw [hd]
      exact tileMapFits_startRegion hq i n sl

theorem tileMapFits_examineNext {s : State} (h : s.tileMapFits = true) : s.examineNext.tileMapFits = true := by
  rcases examineNext_cases s with hx | ⟨i, e, hx⟩
  · rw [hx]
    exact h
  · rw [hx]
    exact tileMapFits_examine h i e

theorem tileMapFits_endCommit {s : State} (h : s.tileMapFits = true) : s.endCommit.tileMapFits = true := by
  unfold State.endCommit
  split
  · exact h
  · rename_i rest _
    split
    · have hserve : State.tileMapFits { s.serveJob with jobs := rest } = true :=
        tileMapFits_of_same h (by simp) (by simp) (by simp)
      exact tileMapFits_endSlot
        (tileMapFits_updateClaimed hserve _ fun k u hu => count_commitTile_le _ _ _ k u hu) _ _
    · exact h

/-! ### Every command and event -/

theorem tileMapFits_commandEffect {s : State} (h : s.tileMapFits = true) (code : Word) :
    (s.commandEffect code).1.tileMapFits = true := by
  unfold State.commandEffect
  split
  case h_2 => exact tileMapFits_cancelTag h _
  case h_3 => exact tileMapFits_cancelAll h
  case h_4 => exact tileMapFits_popRecord h
  case h_8 => exact tileMapFits_tileSet h
  case h_15 => exact tileMapFits_softReset h
  all_goals exact tileMapFits_of_same h (by simp) (by simp) (by simp)

theorem tileMapFits_writeGeometry {s : State} (h : s.tileMapFits = true) (axis : PanelAxis) (w : Word) :
    (s.writeGeometry axis w).tileMapFits = true := by
  unfold State.writeGeometry
  split
  · exact tileMapFits_takeGeometry s axis w.toNat
  · exact h

theorem tileMapFits_writeRegister {s : State} (h : s.tileMapFits = true) (r : Reg) (w : Word) :
    (s.writeRegister r w).tileMapFits = true := by
  cases r with
  | command =>
    exact tileMapFits_of_sameBlocks (sameBlocks_commanded s w fun s => s.commandEffect w)
      (tileMapFits_commandEffect (s := { s with bus := { s.bus with command := w } }) h w)
  | panelW => exact tileMapFits_writeGeometry h .width w
  | panelH => exact tileMapFits_writeGeometry h .height w
  | _ =>
    exact tileMapFits_of_same h (by simp [State.writeRegister])
      (by simp [State.writeRegister, State.writePlain, State.writePolicy])
      (by simp [State.writeRegister, State.writePlain, State.writePolicy])

theorem tileMapFits_fallOfPgood {s : State} (h : s.tileMapFits = true) : s.fallOfPgood.tileMapFits = true := by
  unfold State.fallOfPgood
  dsimp only
  split
  case h_1 | h_2 => exact tileMapFits_cutSlots (tileMapFits_of_same h (by simp) (by simp) (by simp)) _ _
  all_goals exact h

/-- The effects not named leave the tile map and the geometry alone. -/
theorem tileMapFits_effect (s : State) (c : Instr) (hc : route c ≠ none) (h : s.tileMapFits = true) :
    (s.effect c).tileMapFits = true := by
  cases hw : registerWriteOf c with
  | some rw => exact effect_of_registerWriteOf hw s ▸ tileMapFits_writeRegister h rw.1 rw.2
  | none =>
    cases c with
    | pgoodFall => exact tileMapFits_fallOfPgood h
    | entryExamination => exact tileMapFits_examineNext h
    | commitEnd => exact tileMapFits_endCommit h
    | unknownCommand code => exact h
    | vddApplied | pinReset | resetRelease | busAccessInReset => simp [route] at hc
    | _ =>
      exact tileMapFits_of_same h (by simp_all [State.effect, registerWriteOf])
        (by simp_all [State.effect, registerWriteOf]) (by simp_all [State.effect, registerWriteOf])

theorem step_tileMapFits {s t : State} (hs : s.phase = .undefined ∨ s.tileMapFits = true) (h : step s = .next t) :
    t.phase = .undefined ∨ t.tileMapFits = true :=
  step_keeps (P := fun s => s.tileMapFits = true) tileMapFits_of_sameBlocks tileMapFits_pinReset tileMapFits_effect
    (fun _ h => tileMapFits_of_same h (by simp) (by simp) (by simp)) hs h

/-- Settles O56: the canonical form in every phase, and each of the other three invariants by its own step lemma. -/
theorem storesStaySound : Obligations.StoresStaySound := by
  refine ⟨fun s t hs h => step_storesCanonical hs h, fun s t hs h => ?_⟩
  have hcap := step_withinCapacity (hs.imp_right And.left) h
  have hrange := step_inRange (hs.imp_right fun h => h.2.1) h
  have hmap := step_tileMapFits (hs.imp_right fun h => h.2.2) h
  tauto

end Sys2Proof.Machine

/-! PROOFS. The tile grid (R10), TILE_SET (R15) and the geometry writes (R16, R17). -/

namespace Sys2Proof.Machine

/-! ### The tile grid -/

/-- A rectangle is legal when it is not empty and ends within the panel. -/
theorem legal_iff (r : Rect) (w h : Nat) :
    r.legal w h = true ↔ 1 ≤ r.w ∧ 1 ≤ r.h ∧ r.x + r.w ≤ w ∧ r.y + r.h ≤ h := by
  simp [Rect.legal, and_assoc]

/-- Tile `ty * c + tx` of a panel of `c` columns of tiles stands in column `tx` and row `ty`. -/
theorem tile_column {c tx : Nat} (h : tx < c) (ty : Nat) : (ty * c + tx) % c = tx := by
  rw [Nat.mul_add_mod_self_right, Nat.mod_eq_of_lt h]

theorem tile_row {c tx : Nat} (h : tx < c) (ty : Nat) : (ty * c + tx) / c = ty := by
  rw [Nat.mul_comm, Nat.mul_add_div (Nat.zero_lt_of_lt h), Nat.div_eq_of_lt h, Nat.add_zero]

theorem tile_lt_tileCount {w h tx ty : Nat} (hx : tx < w / 16) (hy : ty < h / 16) :
    ty * (w / 16) + tx < tileCount w h := by
  have hmul : (ty + 1) * (w / 16) ≤ (h / 16) * (w / 16) := Nat.mul_le_mul_right _ hy
  rw [Nat.succ_mul] at hmul
  rw [tileCount, Nat.mul_comm (w / 16)]
  omega

theorem claims_tile_iff (r : Rect) {w tx : Nat} (h : tx < w / 16) (ty : Nat) :
    r.claims w (ty * (w / 16) + tx) = true ↔
      r.x / 16 ≤ tx ∧ tx ≤ (r.x + r.w - 1) / 16 ∧ r.y / 16 ≤ ty ∧ ty ≤ (r.y + r.h - 1) / 16 := by
  simp [Rect.claims, tile_column h, tile_row h, and_assoc]

theorem covers_tile_iff (r : Rect) {w tx : Nat} (h : tx < w / 16) (ty : Nat) :
    r.covers w (ty * (w / 16) + tx) = true ↔
      r.x ≤ 16 * tx ∧ 16 * tx + 15 ≤ r.x + r.w - 1 ∧ r.y ≤ 16 * ty ∧ 16 * ty + 15 ≤ r.y + r.h - 1 := by
  simp [Rect.covers, tile_column h, tile_row h, and_assoc]

/-- The last tile of a legal rectangle lies on a panel whose sides are multiples of 16. -/
theorem last_tile_lt {x n side : Nat} (hside : side % 16 = 0) (hn : 1 ≤ n) (h : x + n ≤ side) :
    (x + n - 1) / 16 < side / 16 := by
  omega

/-- A claim set holds the tile of each pair of a column and a row that it spans. -/
theorem claims_of_spans {r : Rect} {w h tx ty : Nat} (hw : w % 16 = 0) (hh : h % 16 = 0) (hr : r.legal w h = true)
    (hx : r.x / 16 ≤ tx) (hx' : tx ≤ (r.x + r.w - 1) / 16) (hy : r.y / 16 ≤ ty) (hy' : ty ≤ (r.y + r.h - 1) / 16) :
    ty * (w / 16) + tx < tileCount w h ∧ r.claims w (ty * (w / 16) + tx) = true := by
  obtain ⟨hw1, hh1, hxw, hyh⟩ := (legal_iff r w h).mp hr
  have htx : tx < w / 16 := hx'.trans_lt (last_tile_lt hw hw1 hxw)
  have hty : ty < h / 16 := hy'.trans_lt (last_tile_lt hh hh1 hyh)
  exact ⟨tile_lt_tileCount htx hty, (claims_tile_iff r htx ty).mpr ⟨hx, hx', hy, hy'⟩⟩

theorem exists_claimed_tile {r : Rect} {w h : Nat} (hw : w % 16 = 0) (hh : h % 16 = 0) (hr : r.legal w h = true) :
    ∃ n, n < tileCount w h ∧ r.claims w n = true := by
  obtain ⟨hw1, hh1, -, -⟩ := (legal_iff r w h).mp hr
  exact ⟨_, claims_of_spans hw hh hr (le_refl _) (Nat.div_le_div_right (by omega)) (le_refl _)
    (Nat.div_le_div_right (by omega))⟩

/-! ### The union of a claim set -/

/-- The right edge of the union. -/
theorem union_right (r : Rect) : r.union.x + r.union.w = 16 * ((r.x + r.w - 1) / 16 + 1) := by
  simp only [Rect.union]
  omega

/-- The lower edge of the union. -/
theorem union_bottom (r : Rect) : r.union.y + r.union.h = 16 * ((r.y + r.h - 1) / 16 + 1) := by
  simp only [Rect.union]
  omega

theorem legal_union {r : Rect} {w h : Nat} (hw : w % 16 = 0) (hh : h % 16 = 0) (hr : r.legal w h = true) :
    r.union.legal w h = true := by
  obtain ⟨hw1, hh1, hxw, hyh⟩ := (legal_iff r w h).mp hr
  rw [legal_iff, union_right, union_bottom]
  simp only [Rect.union]
  omega

theorem covers_union {r : Rect} {w n : Nat} (h : r.claims w n = true) : r.union.covers w n = true := by
  simp only [Rect.claims, Rect.covers, Bool.and_eq_true, decide_eq_true_eq, union_right, union_bottom] at h ⊢
  simp only [Rect.union]
  omega

theorem union_eq_self_iff {r : Rect} {w h : Nat} (hr : r.legal w h = true) :
    r.union = r ↔ r.x % 16 = 0 ∧ r.y % 16 = 0 ∧ r.w % 16 = 0 ∧ r.h % 16 = 0 := by
  obtain ⟨hw1, hh1, -, -⟩ := (legal_iff r w h).mp hr
  obtain ⟨x, y, w', h'⟩ := r
  simp only [Rect.union, Rect.mk.injEq] at hw1 hh1 ⊢
  omega

/-! ### Claim sets that meet -/

/-- Two spans of tiles that overlap hold the larger of their first tiles. -/
theorem meets_iff {r a : Rect} {w h : Nat} (hw : w % 16 = 0) (hh : h % 16 = 0) (hr : r.legal w h = true)
    (ha : a.legal w h = true) :
    r.meets a = true ↔ ∃ n, n < tileCount w h ∧ r.claims w n = true ∧ a.claims w n = true := by
  obtain ⟨hrw, hrh, -, -⟩ := (legal_iff r w h).mp hr
  obtain ⟨haw, hah, -, -⟩ := (legal_iff a w h).mp ha
  simp only [Rect.meets, Bool.and_eq_true, decide_eq_true_eq, and_assoc]
  constructor
  · rintro ⟨h1, h2, h3, h4⟩
    have hclaims (b : Rect) (hb : b.legal w h = true) :=
      claims_of_spans (tx := max (r.x / 16) (a.x / 16)) (ty := max (r.y / 16) (a.y / 16)) hw hh hb
    obtain ⟨hlt, hrc⟩ := hclaims r hr (by omega) (by omega) (by omega) (by omega)
    exact ⟨_, hlt, hrc, (hclaims a ha (by omega) (by omega) (by omega) (by omega)).2⟩
  · rintro ⟨n, -, hrn, han⟩
    simp only [Rect.claims, Bool.and_eq_true, decide_eq_true_eq] at hrn han
    omega

/-- Settles O11: each clause is one lemma about the grid. -/
theorem tileGrid : Obligations.TileGrid := by
  intro r a w h hw hh hr ha
  exact ⟨rfl, fun tx ty hx _ => ⟨claims_tile_iff r hx ty, covers_tile_iff r hx ty⟩, exists_claimed_tile hw hh hr,
    rfl, rfl, union_right r, union_bottom r, legal_union hw hh hr, claims_union r w, fun n => covers_union,
    union_eq_self_iff hr, meets_iff hw hh hr ha⟩

end Sys2Proof.Machine

/-! PROOFS. TILE_SET (R15), the geometry writes (R16, R17) and SOFT_RESET (R154): each command's step as its effect in a
part that takes it. -/

namespace Sys2Proof.Machine

/-! ### Steps of a part that takes a command -/

theorem exec_of_takes {s : State} (h : s.takes) {c : Instr} (hc : route c ≠ none) :
    exec c s = .next (s.effect c).settle :=
  exec_running hc h.1.1 h.2

/-- What a step settles reads the slots, the queue, the dispatcher's flags, the kind of the scan and the sequencer. -/
theorem settled_congr {s t : State} (hsl : t.slots = s.slots) (hq : t.queue = s.queue)
    (hd : t.dispatcher = s.dispatcher) (hsc : t.scan.map Scan.kind = s.scan.map Scan.kind) (hp : t.power = s.power) :
    t.settled = s.settled := by
  unfold State.settled
  rw [anyActive_of_slots hsl, hq, hd, hp]
  cases hs : s.scan <;> cases ht : t.scan <;> simp_all

/-- A plain update of a settled state leaves nothing for the end of the step. -/
theorem settle_of_same {s t : State} (h : s.settled = true) (hsl : t.slots = s.slots) (hq : t.queue = s.queue)
    (hd : t.dispatcher = s.dispatcher) (hsc : t.scan.map Scan.kind = s.scan.map Scan.kind) (hp : t.power = s.power) :
    t.settle = t :=
  settle_of_settled ((settled_congr hsl hq hd hsc hp).trans h)

/-! ### TILE_SET -/

/-- TILE_SET's step: its effect, its answer, and what follows. -/
theorem exec_tileSet {s : State} (h : s.takes) :
    exec .tileSet s = .next (s.tileSet.1.answered 0x08 s.tileSet.2).settle := by
  rw [exec_of_takes h (by simp [route]), State.effect, commanded_tileSet]

theorem settle_answered {s : State} (h : s.settled = true) (code : Word) (r : Result) :
    (s.answered code r).settle = s.answered code r :=
  settle_of_same h rfl rfl rfl rfl rfl

theorem tileSet_of_illegal {s : State} (h : s.argRect.legal s.config.panelW s.config.panelH = false) :
    s.tileSet = (s, .badRect) := by
  simp [State.tileSet, h]

theorem tileSet_of_owned {s : State} (h : s.argRect.legal s.config.panelW s.config.panelH = true)
    (hown : s.anyClaimed s.argRect (fun t => t.owner.isSome) = true) : s.tileSet = (s, .busy) := by
  simp [State.tileSet, h, hown]

/-- The tile map as an accepted TILE_SET leaves it (R13, R15). -/
def State.tilesSet (s : State) : List Tile :=
  (s.updateClaimed s.argRect fun _ t => if bitOf (s.arg 4) 0 then t.makeKnown else t.makeUnknown).tiles

theorem tileSet_of_free {s : State} (h : s.argRect.legal s.config.panelW s.config.panelH = true)
    (hfree : s.anyClaimed s.argRect (fun t => t.owner.isSome) = false) :
    s.tileSet = (if s.tilesSet = s.tiles then s else State.startPass { s with tiles := s.tilesSet }, .accepted) := by
  have hu : (s.updateClaimed s.argRect fun _ t => if bitOf (s.arg 4) 0 then t.makeKnown else t.makeUnknown)
      = { s with tiles := s.tilesSet } := rfl
  simp only [State.tileSet, h, hfree, hu, Bool.not_true, Bool.false_eq_true, if_false]
  split
  · rename_i heq
    rw [heq]
  · rfl

theorem startPass_answered (s : State) (code : Word) (r : Result) :
    s.startPass.answered code r = (s.answered code r).startPass := by
  have hb : s.startPass.bus = s.bus := by simp
  have h := startPass_withBus s { s.bus with command := code, cmdResult := r }
  simpa only [State.withBus, State.answered, hb] using h.symm

theorem getElem?_tilesSet (s : State) (k : Nat) :
    s.tilesSet[k]? = s.tiles[k]?.map fun t =>
      if s.argRect.claims s.config.panelW k = true then
        (if (s.arg 4).toNat.testBit 0 = true then ⟨t.owner, true, 0⟩ else ⟨t.owner, false, t.count⟩)
      else t :=
  tiles_updateClaimed s s.argRect _ k

/-- Settles O12, by the three answers of TILE_SET. -/
theorem tileSetAnswers : Obligations.TileSetAnswers := by
  intro s h
  have hset := h.1.2
  refine ⟨fun hbad => ?_, fun hlegal hown => ?_, fun hlegal hfree => ⟨s.tilesSet, getElem?_tilesSet s, ?_⟩⟩
  · rw [exec_tileSet h, tileSet_of_illegal hbad, settle_answered hset]
  · rw [exec_tileSet h, tileSet_of_owned hlegal ((anyClaimed_iff s _ _).mpr hown), settle_answered hset]
  · have hnone : s.anyClaimed s.argRect (fun t => t.owner.isSome) = false := by
      rw [← Bool.not_eq_true, anyClaimed_iff]
      rintro ⟨k, t, hk, hc, ho⟩
      rw [hfree k t hk hc] at ho
      cases ho
    rw [exec_tileSet h, tileSet_of_free hlegal hnone]
    split
    · rw [settle_answered hset]
    · dsimp only
      rw [startPass_answered]
      rfl

/-! ### Geometry writes -/

theorem quiescent_iff (s : State) :
    s.quiescent = true ↔
      s.power.state = .off ∧ s.queue = [] ∧ (∀ n, (s.slot n).state = .free) ∧ s.load.state = .closed := by
  simp [State.quiescent, anyLive_eq_false_iff, and_assoc]

theorem programmable_width_iff (v : Nat) : programmable .width v = true ↔ v % 16 = 0 ∧ 64 ≤ v ∧ v ≤ 1024 := by
  simp [programmable, and_assoc]

theorem programmable_height_iff (v : Nat) : programmable .height v = true ↔ v % 16 = 0 ∧ 64 ≤ v ∧ v ≤ 768 := by
  simp [programmable, and_assoc]

/-- A geometry write's step: it leaves nothing for the end of the step. -/
theorem exec_panelGeometryWrite {s : State} (h : s.takes) (axis : PanelAxis) (w : Word) :
    exec (.panelGeometryWrite axis w) s = .next (s.writeGeometry axis w) := by
  rw [exec_of_takes h (by simp [route])]
  exact congrArg _ (settle_of_same h.1.2 (by simp [State.effect]) (by simp [State.effect]) (by simp [State.effect])
    (by simp [State.effect]) (by simp [State.effect]))

theorem writeGeometry_taken {s : State} {axis : PanelAxis} {w : Word} (hq : s.quiescent = true)
    (hp : programmable axis w.toNat = true) : s.writeGeometry axis w = s.takeGeometry axis w.toNat := by
  simp [State.writeGeometry, hq, hp]

theorem writeGeometry_refused {s : State} {axis : PanelAxis} {w : Word}
    (h : ¬(s.quiescent = true ∧ programmable axis w.toNat = true)) : s.writeGeometry axis w = s.refuseConfig := by
  simp only [State.writeGeometry, Bool.and_eq_true, if_neg h]

/-- Settles O13: a geometry write is taken in a quiescent part with a programmable value, and refused otherwise. -/
theorem geometryWrites : Obligations.GeometryWrites := by
  intro s w h
  simp only [← quiescent_iff, ← programmable_width_iff, ← programmable_height_iff, exec_panelGeometryWrite h]
  refine ⟨fun hq h1 h2 h3 => ?_, fun hq h1 h2 h3 => ?_, fun hn => ?_, fun hn => ?_⟩
  · rw [writeGeometry_taken hq ((programmable_width_iff _).mpr ⟨h1, h2, h3⟩)]
    rfl
  · rw [writeGeometry_taken hq ((programmable_height_iff _).mpr ⟨h1, h2, h3⟩)]
    rfl
  · rw [writeGeometry_refused hn]
    rfl
  · rw [writeGeometry_refused hn]
    rfl

/-! ### SOFT_RESET -/

/-- A soft reset leaves no discharge due, no scan and no pass, so nothing for the end of its step. -/
theorem settled_softReset (s : State) : s.softReset.settled = true := by
  have hstate : s.softReset.power.state ≠ .on := by
    simp only [State.softReset, PowerSequencer.softReset]
    split <;> simp_all
  simp [State.settled, hstate, show s.softReset.scan = none from rfl,
    show s.softReset.dispatcher.passInProgress = false from rfl]

theorem exec_softReset {s : State} (h : s.takes) : exec .softReset s = .next (s.softReset.answered 0x0F .accepted) := by
  obtain ⟨-, -, -, -, -, -, -, hcommanded⟩ := commanded_plain s
  rw [exec_of_takes h (by simp [route]), State.effect, hcommanded]
  exact congrArg _ (settle_answered (settled_softReset s) _ _)

/-- Every state of the sequencer but OFF is FALLING after a soft reset, its timer running anew unless it already was
(R133). -/
theorem softReset_power (p : PowerSequencer) (fallTime : Nat) :
    p.softReset fallTime = { p with
      state := if p.state = .off then .off else .falling
      downPending := false, wakePending := false, idleCount := 0, dischargeCount := 0
      riseTimer := if p.state = .off ∨ p.state = .falling then p.riseTimer else none
      fallTimer := if p.state = .off ∨ p.state = .falling then p.fallTimer else some fallTime } := by
  unfold PowerSequencer.softReset
  dsimp only
  split <;> simp_all

theorem mode_softReset (s : State) (m : Fin 8) : s.softReset.mode m = (s.mode m).softReset := by
  simp [State.mode, State.softReset]

theorem getElem?_tiles_softReset (s : State) (k : Nat) :
    s.softReset.tiles[k]? = s.tiles[k]?.map fun tile =>
      match tile.owner with
      | none => tile
      | some n => if (s.slot n).drivenAnything = true then ⟨none, false, tile.count⟩ else ⟨none, tile.known, tile.count⟩ := by
  have htile : s.softResetTile = fun tile =>
      match tile.owner with
      | none => tile
      | some n => if (s.slot n).drivenAnything = true then ⟨none, false, tile.count⟩
        else ⟨none, tile.known, tile.count⟩ := rfl
  rw [← htile]
  exact List.getElem?_map

/-- Settles O53: the soft reset of each block, answered ACCEPTED. -/
theorem softResetEffect : Obligations.SoftResetEffect := by
  intro s h
  refine ⟨_, exec_softReset h, rfl, rfl, rfl, rfl, rfl, rfl, fun m => ?_, rfl, rfl, rfl, rfl, rfl, rfl, fun n => ?_,
    getElem?_tiles_softReset s, rfl, rfl, rfl, rfl, rfl, rfl, rfl, softReset_power _ _, rfl, rfl, rfl, rfl⟩
  · exact mode_softReset s m
  · exact Vector.getElem_replicate n.isLt

end Sys2Proof.Machine

/-! PROOFS. One access of the memory port (R6, R7, R95, R100): a scan read that waits, then the running job. -/

namespace Sys2Proof.Machine

/-! ### Quads (R1) -/

theorem getElem_readQuad (s : State) (p : Plane) (q y : Nat) (i : Fin 4) :
    (s.readQuad p q y)[i] = s.pixel p (4 * q + i.val) y := by
  fin_cases i <;> rfl

/-- The pixels of a quad inside the columns from `lo` to `hi - 1`, each with its level. -/
theorem mem_quadPixels_iff (q lo hi : Nat) (v : Quad) (c : Nat × Level) :
    c ∈ quadPixels q lo hi v ↔ (∃ i : Fin 4, c = (4 * q + i.val, v[i])) ∧ lo ≤ c.1 ∧ c.1 < hi := by
  have hlist : [(4 * q, v[0]), (4 * q + 1, v[1]), (4 * q + 2, v[2]), (4 * q + 3, v[3])]
      = List.ofFn fun i : Fin 4 => (4 * q + i.val, v[i]) := rfl
  rw [quadPixels, hlist, List.mem_filter, List.mem_ofFn, Bool.and_eq_true, decide_eq_true_eq, decide_eq_true_eq]
  exact and_congr_left fun _ => exists_congr fun _ => eq_comm

theorem nodup_columns_quadPixels (q lo hi : Nat) (v : Quad) : ((quadPixels q lo hi v).map Prod.fst).Nodup := by
  have hfull : ([(4 * q, v[0]), (4 * q + 1, v[1]), (4 * q + 2, v[2]), (4 * q + 3, v[3])].map Prod.fst).Nodup := by
    simp
  exact hfull.sublist (List.filter_sublist.map _)

/-- A quad write changes the planes alone. -/
theorem writePixels_eq (s : State) (p : Plane) (y : Nat) (ls : List (Nat × Level)) :
    s.writePixels p y ls = { s with image := (s.writePixels p y ls).image } := by
  induction ls generalizing s with
  | nil => rfl
  | cons c t ih => exact ih (s.writePixel p c.1 y c.2)

/-- A pixel that a quad write does not carry keeps its level. -/
theorem pixel_writePixels_of_not_mem {s : State} {p p' : Plane} {x y y' : Nat} {ls : List (Nat × Level)}
    (hcols : ∀ c ∈ ls, c.1 < 1024) (hx : x < 1024) (h : p' ≠ p ∨ y' ≠ y ∨ x ∉ ls.map Prod.fst) :
    (s.writePixels p y ls).pixel p' x y' = s.pixel p' x y' := by
  induction ls generalizing s with
  | nil => rfl
  | cons c t ih =>
    rw [List.forall_mem_cons] at hcols
    rw [List.map_cons, List.mem_cons, not_or] at h
    rw [State.writePixels, ih hcols.2 (by tauto), pixel_writePixel _ _ _ _ _ _ _ _ hcols.1 hx, if_neg (by tauto)]

/-- A pixel that a quad write carries takes its level. -/
theorem pixel_writePixels_of_mem {s : State} {p : Plane} {x y : Nat} {l : Level} {ls : List (Nat × Level)}
    (hnodup : (ls.map Prod.fst).Nodup) (hcols : ∀ c ∈ ls, c.1 < 1024) (h : (x, l) ∈ ls) :
    (s.writePixels p y ls).pixel p x y = l := by
  induction ls generalizing s with
  | nil => cases h
  | cons c t ih =>
    have hx : x < 1024 := hcols _ h
    rw [List.map_cons, List.nodup_cons] at hnodup
    rw [List.forall_mem_cons] at hcols
    rcases List.mem_cons.mp h with rfl | ht
    · rw [State.writePixels, pixel_writePixels_of_not_mem hcols.2 hx (.inr (.inr hnodup.1)),
        pixel_writePixel _ _ _ _ _ _ _ _ hx hx, if_pos ⟨rfl, rfl, rfl⟩]
    · exact ih hnodup.2 hcols.2 ht

/-! ### The read that the scan has waiting -/

/-- Some slot in the plan drives a pixel of the quad (R114). -/
theorem quadDriven_iff (s : State) (q y : Nat) :
    s.quadDriven q y = true ↔
      ∃ (i : Fin 4) (n : Fin 16) (p : PlanEntry),
        s.ownerAt (4 * q + i.val) y = some n ∧ s.planOf n = some p ∧ p.rect.contains (4 * q + i.val) y = true := by
  have hquad : s.quadDriven q y = true ↔ ∃ i : Fin 4, (s.driverOf (4 * q + i.val) y).isSome = true := by
    simp [State.quadDriven, Fin.exists_fin_succ, or_assoc]
  simp only [hquad, driverOf_isSome_iff]

theorem readRow_eq_some_iff (sc : Scan) (y : Nat) :
    sc.readRow = some y ↔ sc.kind = .drive ∧ 2 ≤ sc.line ∧ sc.line ≤ sc.h + 1 ∧ y = sc.line - 2 := by
  unfold Scan.readRow
  split
  · rename_i h
    obtain ⟨hk, h2, hh⟩ := h
    simp [hk, h2, hh, eq_comm]
  · rename_i h
    simp only [reduceCtorEq, false_iff]
    tauto

theorem scanQuad_eq_some_iff (s : State) (sc : Scan) (y q : Nat) :
    s.scanQuad sc = some (y, q) ↔
      sc.readRow = some y ∧ sc.formed.length / 4 ≤ q ∧ q < sc.w / 4 ∧ s.quadDriven q y = true ∧
        ∀ q', sc.formed.length / 4 ≤ q' → q' < q → s.quadDriven q' y = false := by
  have hrow (y : Nat) : s.nextDrivenQuad y (sc.w / 4 - sc.formed.length / 4) (sc.formed.length / 4) = some q ↔
      sc.formed.length / 4 ≤ q ∧ q < sc.w / 4 ∧ s.quadDriven q y = true ∧
        ∀ q', sc.formed.length / 4 ≤ q' → q' < q → s.quadDriven q' y = false := by
    rw [nextDrivenQuad_iff]
    refine and_congr_right fun _ => and_congr_left fun _ => ?_
    omega
  unfold State.scanQuad
  split
  · rename_i hnone
    simp [hnone]
  · rename_i y' hy'
    split
    · rename_i hnone
      simp only [reduceCtorEq, false_iff]
      rintro ⟨hy, hq⟩
      rw [hy'] at hy
      cases hy
      rw [(hrow y).mpr hq] at hnone
      cases hnone
    · rename_i q' hq'
      rw [Option.some.injEq, Prod.mk.injEq, hy', Option.some.injEq, ← hrow]
      constructor
      · rintro ⟨rfl, rfl⟩
        exact ⟨rfl, hq'⟩
      · rintro ⟨rfl, hq⟩
        rw [hq'] at hq
        exact ⟨rfl, Option.some.inj hq⟩

/-! ### The port's step -/

theorem kind_serveScan {s : State} {sc : Scan} (h : s.scan = some sc) (y q : Nat) :
    (s.serveScan sc y q).scan.map Scan.kind = s.scan.map Scan.kind := by
  unfold State.serveScan
  rw [h]
  split
  · split <;> rfl
  · rfl

theorem kind_quadAccess (s : State) : s.quadAccess.scan.map Scan.kind = s.scan.map Scan.kind := by
  have hlower : s.lowerAccess.scan = s.scan := by simp
  unfold State.quadAccess
  split
  · rw [hlower]
  · rename_i sc hsc
    split
    · rw [hlower]
    · exact kind_serveScan hsc _ _

theorem exec_quadAccess {s : State} (h : s.runs) : exec .quadAccess s = .next s.quadAccess := by
  rw [exec_running_event rfl h.1]
  exact congrArg _ (settle_of_same h.2 (by simp [State.effect]) (by simp [State.effect]) (by simp [State.effect])
    (kind_quadAccess s) (by simp [State.effect]))

theorem quadAccess_of_scanQuad {s : State} {sc : Scan} {y q : Nat} (hsc : s.scan = some sc)
    (hq : s.scanQuad sc = some (y, q)) : s.quadAccess = s.serveScan sc y q := by
  simp only [State.quadAccess, hsc, hq]

theorem quadAccess_of_none {s : State} (h : ∀ sc, s.scan = some sc → s.scanQuad sc = none) :
    s.quadAccess = s.lowerAccess := by
  unfold State.quadAccess
  split
  · rfl
  · rename_i sc hsc
    rw [h sc hsc]

/-- The first access of a quad that waits reads CURRENT (R7). -/
theorem serveScan_of_current {s : State} {sc : Scan} (y : Nat) {q : Nat} (h : ∀ cur, sc.fromRead ≠ some (q, cur)) :
    s.serveScan sc y q = { s with scan := some { sc with fromRead := some (q, s.readQuad .current q y) } } := by
  unfold State.serveScan
  split
  · rename_i q' cur hread
    split
    · rename_i heq
      exact absurd (heq ▸ hread) (h cur)
    · rfl
  · rfl

/-- The second reads FROZEN, at which the quad's codes are formed (R7, R114). -/
theorem serveScan_of_frozen {s : State} {sc : Scan} (y : Nat) {q : Nat} {cur : Quad} (h : sc.fromRead = some (q, cur)) :
    s.serveScan sc y q = { s with scan := some { sc with
      formed := sc.formed ++ List.replicate (4 * q - sc.formed.length) ⟨.neutral, none⟩ ++
        s.formQuad q y cur (s.readQuad .frozen q y)
      fromRead := none } } := by
  simp only [State.serveScan, h, if_true]

/-! ### The running job's access -/

/-- The quad of the row that the job's next access is in. -/
def Job.quad (j : Job) (r : Rect) : Nat := r.x / 4 + j.quadsDone % r.quadsPerRow

/-- The row that the job's next access is in. -/
def Job.row (j : Job) (r : Rect) : Nat := r.y + j.quadsDone / r.quadsPerRow

/-- The levels that the running job writes for a quad it has read (R95, R100). -/
def State.jobLevels (s : State) (j : Job) (v : Quad) : List (Nat × Level) :=
  (quadPixels (j.quad (s.slot j.slot).rect) (s.slot j.slot).rect.x
      ((s.slot j.slot).rect.x + (s.slot j.slot).rect.w) v).map
    fun c => (c.1, s.jobLevel j.kind (s.slot j.slot).mode c.2)

theorem jobAccess_of_done {s : State} {j : Job} {rest : List Job} (hjobs : s.jobs = j :: rest)
    (h : (s.slot j.slot).rect.quads ≤ j.quadsDone) : s.jobAccess = s := by
  simp [State.jobAccess, hjobs, Nat.not_lt.mpr h]

theorem jobAccess_of_read {s : State} {j : Job} {rest : List Job} (hjobs : s.jobs = j :: rest)
    (h : j.quadsDone < (s.slot j.slot).rect.quads) (hheld : j.held = none) :
    s.jobAccess = { s with jobs := { j with
      held := some (s.readQuad j.kind.source (j.quad (s.slot j.slot).rect) (j.row (s.slot j.slot).rect)) } :: rest } := by
  simp only [State.jobAccess, hjobs, h, if_true, hheld, Job.quad, Job.row]

theorem jobAccess_of_write {s : State} {j : Job} {rest : List Job} {v : Quad} (hjobs : s.jobs = j :: rest)
    (h : j.quadsDone < (s.slot j.slot).rect.quads) (hheld : j.held = some v) :
    s.jobAccess = { s.writePixels j.kind.dest (j.row (s.slot j.slot).rect) (s.jobLevels j v) with
      jobs := { j with quadsDone := j.quadsDone + 1, held := none } :: rest } := by
  simp only [State.jobAccess, hjobs, h, if_true, hheld, State.jobLevels, Job.quad, Job.row]

section JobWrite

variable {s : State} {j : Job} {rest : List Job} {v : Quad}

theorem columns_jobLevels (s : State) (j : Job) (v : Quad) : (s.jobLevels j v).map Prod.fst =
    (quadPixels (j.quad (s.slot j.slot).rect) (s.slot j.slot).rect.x
      ((s.slot j.slot).rect.x + (s.slot j.slot).rect.w) v).map Prod.fst := by
  simp [State.jobLevels, Function.comp_def]

/-- The columns written are those of the quad that lie in the rectangle. -/
theorem mem_columns_jobLevels_iff (x : Nat) : x ∈ (s.jobLevels j v).map Prod.fst ↔
    x / 4 = j.quad (s.slot j.slot).rect ∧ (s.slot j.slot).rect.x ≤ x ∧
      x < (s.slot j.slot).rect.x + (s.slot j.slot).rect.w := by
  rw [columns_jobLevels, List.mem_map]
  constructor
  · rintro ⟨c, hc, rfl⟩
    obtain ⟨⟨i, rfl⟩, hlo, hhi⟩ := (mem_quadPixels_iff _ _ _ _ _).mp hc
    exact ⟨by simp only; omega, hlo, hhi⟩
  · rintro ⟨hq, hlo, hhi⟩
    have hx : 4 * j.quad (s.slot j.slot).rect + x % 4 = x := by omega
    refine ⟨_, (mem_quadPixels_iff _ _ _ _ _).mpr ⟨⟨⟨x % 4, Nat.mod_lt x (by omega)⟩, rfl⟩, ?_, ?_⟩, hx⟩ <;>
      simpa only [hx]

theorem column_jobLevels_lt (hr : (s.slot j.slot).rect.x + (s.slot j.slot).rect.w ≤ 1024) :
    ∀ c ∈ s.jobLevels j v, c.1 < 1024 := by
  intro c hc
  have hcol := (mem_columns_jobLevels_iff c.1).mp (List.mem_map_of_mem hc)
  omega

/-- A pixel of the quad inside the rectangle takes the level that the job writes for it. -/
theorem pixel_jobAccess_inside (hjobs : s.jobs = j :: rest) (h : j.quadsDone < (s.slot j.slot).rect.quads)
    (hheld : j.held = some v) (hr : (s.slot j.slot).rect.x + (s.slot j.slot).rect.w ≤ 1024) (i : Fin 4)
    (hlo : (s.slot j.slot).rect.x ≤ 4 * j.quad (s.slot j.slot).rect + i.val)
    (hhi : 4 * j.quad (s.slot j.slot).rect + i.val < (s.slot j.slot).rect.x + (s.slot j.slot).rect.w) :
    s.jobAccess.pixel j.kind.dest (4 * j.quad (s.slot j.slot).rect + i.val) (j.row (s.slot j.slot).rect) =
      s.jobLevel j.kind (s.slot j.slot).mode v[i] := by
  rw [jobAccess_of_write hjobs h hheld]
  refine (pixel_of_image rfl rfl _ _ _).trans (pixel_writePixels_of_mem ?_ (column_jobLevels_lt hr) ?_)
  · rw [columns_jobLevels]
    exact nodup_columns_quadPixels _ _ _ _
  · exact List.mem_map.mpr ⟨_, (mem_quadPixels_iff _ _ _ _ _).mpr ⟨⟨i, rfl⟩, hlo, hhi⟩, rfl⟩

/-- Every other pixel keeps its level. -/
theorem pixel_jobAccess_outside (hjobs : s.jobs = j :: rest) (h : j.quadsDone < (s.slot j.slot).rect.quads)
    (hheld : j.held = some v) (hr : (s.slot j.slot).rect.x + (s.slot j.slot).rect.w ≤ 1024) {p : Plane} {x y : Nat}
    (hx : x < 1024)
    (hout : p ≠ j.kind.dest ∨ y ≠ j.row (s.slot j.slot).rect ∨ x / 4 ≠ j.quad (s.slot j.slot).rect ∨
      x < (s.slot j.slot).rect.x ∨ (s.slot j.slot).rect.x + (s.slot j.slot).rect.w ≤ x) :
    s.jobAccess.pixel p x y = s.pixel p x y := by
  rw [jobAccess_of_write hjobs h hheld]
  refine (pixel_of_image rfl rfl _ _ _).trans (pixel_writePixels_of_not_mem (column_jobLevels_lt hr) hx ?_)
  refine hout.imp_right (Or.imp_right fun hcol hmem => ?_)
  obtain ⟨hq, hlo, hhi⟩ := (mem_columns_jobLevels_iff x).mp hmem
  omega

theorem jobAccess_write_frame (hjobs : s.jobs = j :: rest) (h : j.quadsDone < (s.slot j.slot).rect.quads)
    (hheld : j.held = some v) : { s.jobAccess with image := s.image, jobs := s.jobs } = s := by
  rw [jobAccess_of_write hjobs h hheld, writePixels_eq]

end JobWrite

/-! ### No access waits -/

/-- A Load Engine that waits for nothing at the port (Table 2.1). -/
theorem waiting_eq_false {l : LoadEngine}
    (h : l.state = .closed ∨ l.state = .autoPending ∨ l.remaining = 0 ∨
      (l.state = .reading ∧ 32 ≤ l.fifo.length) ∨ ((l.state = .writing ∨ l.state = .draining) ∧ l.fifo = [])) :
    l.waiting = false := by
  unfold LoadEngine.waiting
  rcases h with hst | hst | hrem | ⟨hst, hfull⟩ | ⟨hst | hst, hfifo⟩
  · simp [hst]
  · simp [hst]
  · split <;> simp [hrem]
  · have hno : ¬l.fifo.length < Config.fifoPlaces := Nat.not_lt.mpr hfull
    simp [hst, hno]
  · simp [hst, hfifo]
  · simp [hst, hfifo]

theorem loadAccess_of_not_waiting {s : State} (h : s.load.waiting = false) : s.loadAccess = s := by
  simp [State.loadAccess, h]

/-! ### The port's step by the access that waits -/

theorem exec_quadAccess_of_job {s : State} (h : s.runs) (hnone : ∀ sc, s.scan = some sc → s.scanQuad sc = none) {j : Job}
    {rest : List Job} (hjobs : s.jobs = j :: rest) : exec .quadAccess s = .next s.jobAccess := by
  rw [exec_quadAccess h, quadAccess_of_none hnone, State.lowerAccess, hjobs]
  rfl

/-- Settles O40: the port's step, by the access of highest priority that waits. -/
theorem quadAccesses : Obligations.QuadAccesses := by
  intro s h
  refine ⟨getElem_readQuad s, fun sc _ => ?_, serveScanReads_of_none, fun sc yq => serveScanReads_of_some,
    scanQuad_serveScanReads s, fun sc y q hsc hq => ⟨fun hcur => ?_, fun cur hcur => ?_⟩,
    fun hnone => ⟨fun j rest hjobs => ⟨fun hdone => ?_, fun hlt hheld => ?_, fun v hlt hheld hr => ?_⟩,
      fun hjobs hload => ?_⟩⟩
  · intro driven y q
    rw [scanQuad_eq_some_iff, readRow_eq_some_iff]
    constructor
    · rintro ⟨⟨hk, h2, hh, rfl⟩, h3, h4, h5, h6⟩
      refine ⟨hk, h2, hh, rfl, h3, h4, (quadDriven_iff s q _).mp h5, fun q' ha hb hd => ?_⟩
      exact absurd ((quadDriven_iff s q' _).mpr hd) (by simp [h6 q' ha hb])
    · rintro ⟨hk, h2, hh, rfl, h3, h4, h5, h6⟩
      refine ⟨⟨hk, h2, hh, rfl⟩, h3, h4, (quadDriven_iff s q _).mpr h5, fun q' ha hb => ?_⟩
      rw [← Bool.not_eq_true, quadDriven_iff]
      exact h6 q' ha hb
  · rw [exec_quadAccess h, quadAccess_of_scanQuad hsc hq, serveScan_of_current y hcur]
  · rw [exec_quadAccess h, quadAccess_of_scanQuad hsc hq, serveScan_of_frozen y hcur]
    rfl
  · rw [exec_quadAccess_of_job h hnone hjobs, jobAccess_of_done hjobs hdone]
  · rw [exec_quadAccess_of_job h hnone hjobs, jobAccess_of_read hjobs hlt hheld]
    cases j.kind <;> rfl
  · refine ⟨_, exec_quadAccess_of_job h hnone hjobs, fun i hlo hhi => ?_, fun p x y' hx hout => ?_,
      ?_, jobAccess_write_frame hjobs hlt hheld⟩
    · have hin := pixel_jobAccess_inside hjobs hlt hheld hr i hlo hhi
      cases hk : j.kind <;> (rw [hk] at hin; exact hin)
    · refine pixel_jobAccess_outside hjobs hlt hheld hr hx ?_
      cases hk : j.kind <;> (rw [hk] at hout; exact hout)
    · rw [jobAccess_of_write hjobs hlt hheld]
  · rw [exec_quadAccess h, quadAccess_of_none hnone, State.lowerAccess, hjobs]
    exact congrArg _ (loadAccess_of_not_waiting (waiting_eq_false hload))

end Sys2Proof.Machine

/-! PROOFS. The stream order of the eight orientations (R19, R20): the position of a pixel in the stream, which undoes
`streamPixel`. -/

namespace Sys2Proof.Machine

/-! ### The lines of an orientation -/

/-- The pixels of a line of the orientation: a row for 0 to 3, a column for 4 to 7 (Table 2.2). -/
def Rect.lineLength (r : Rect) (o : Fin 8) : Nat := if o.val < 4 then r.w else r.h

/-- The lines of the rectangle in the orientation. -/
def Rect.lineCount (r : Rect) (o : Fin 8) : Nat := if o.val < 4 then r.h else r.w

/-- The place of a pixel in its line, in the order the stream visits the line. -/
def Rect.placeInLine (r : Rect) (o : Fin 8) (x y : Nat) : Nat :=
  let a := if o.val < 4 then x - r.x else y - r.y
  if o.val % 2 = 0 then a else r.lineLength o - 1 - a

/-- The place of a pixel's line, in the order the stream visits the lines. -/
def Rect.lineOf (r : Rect) (o : Fin 8) (x y : Nat) : Nat :=
  let a := if o.val < 4 then y - r.y else x - r.x
  if o.val % 4 < 2 then a else r.lineCount o - 1 - a

/-- The stream position of a pixel (R19). -/
def Rect.streamPosition (r : Rect) (o : Fin 8) (x y : Nat) : Nat :=
  r.placeInLine o x y + r.lineLength o * r.lineOf o x y

theorem contains_iff (r : Rect) (x y : Nat) :
    r.contains x y = true ↔ r.x ≤ x ∧ x < r.x + r.w ∧ r.y ≤ y ∧ y < r.y + r.h := by
  simp [Rect.contains, and_assoc]

theorem lineLength_mul_lineCount (r : Rect) (o : Fin 8) : r.lineLength o * r.lineCount o = r.w * r.h := by
  unfold Rect.lineLength Rect.lineCount
  split
  · rfl
  · exact Nat.mul_comm _ _

section StreamOrder

variable {r : Rect} {o : Fin 8} {k x y : Nat}

theorem lineLength_pos (hk : k < r.w * r.h) : 0 < r.lineLength o := by
  rw [← lineLength_mul_lineCount r o] at hk
  exact Nat.pos_of_mul_pos_right (Nat.zero_lt_of_lt hk)

theorem mod_lineLength_lt (hk : k < r.w * r.h) : k % r.lineLength o < r.lineLength o :=
  Nat.mod_lt _ (lineLength_pos hk)

theorem div_lineLength_lt (hk : k < r.w * r.h) : k / r.lineLength o < r.lineCount o := by
  rw [← lineLength_mul_lineCount r o] at hk
  exact Nat.div_lt_of_lt_mul hk

/-- Table 2.2, the directions within a line and of the lines undone. -/
theorem streamPixel_eq_iff_of_lines (hk : k < r.w * r.h) (hc : r.contains x y = true) :
    streamPixel r o k = (x, y) ↔
      k % r.lineLength o = r.placeInLine o x y ∧ k / r.lineLength o = r.lineOf o x y := by
  have hmod := mod_lineLength_lt (o := o) hk
  have hdiv := div_lineLength_lt (o := o) hk
  obtain ⟨hx, hxw, hy, hyh⟩ := (contains_iff r x y).mp hc
  unfold streamPixel Rect.placeInLine Rect.lineOf
  unfold Rect.lineLength Rect.lineCount at *
  by_cases hrow : o.val < 4 <;> simp only [hrow, if_true, if_false, Prod.mk.injEq] at hmod hdiv ⊢ <;>
    split <;> split <;> omega

theorem placeInLine_lt (hc : r.contains x y = true) : r.placeInLine o x y < r.lineLength o := by
  obtain ⟨hx, hxw, hy, hyh⟩ := (contains_iff r x y).mp hc
  unfold Rect.placeInLine Rect.lineLength
  dsimp only
  split <;> split <;> omega

theorem lineOf_lt (hc : r.contains x y = true) : r.lineOf o x y < r.lineCount o := by
  obtain ⟨hx, hxw, hy, hyh⟩ := (contains_iff r x y).mp hc
  unfold Rect.lineOf Rect.lineCount
  dsimp only
  split <;> split <;> omega

theorem streamPosition_lt (hc : r.contains x y = true) : r.streamPosition o x y < r.w * r.h := by
  have hplace := placeInLine_lt (o := o) hc
  rw [← lineLength_mul_lineCount r o]
  calc r.streamPosition o x y < r.lineLength o * (r.lineOf o x y + 1) := by
        rw [Rect.streamPosition, Nat.mul_succ]; omega
    _ ≤ r.lineLength o * r.lineCount o := Nat.mul_le_mul_left _ (lineOf_lt hc)

/-- A pixel of the rectangle is visited at its stream position and at no other (R19). -/
theorem streamPixel_eq_iff (hk : k < r.w * r.h) (hc : r.contains x y = true) :
    streamPixel r o k = (x, y) ↔ k = r.streamPosition o x y := by
  rw [streamPixel_eq_iff_of_lines hk hc, and_comm, Nat.div_mod_unique (lineLength_pos hk), Rect.streamPosition]
  exact ⟨fun h => h.1.symm, fun h => ⟨h.symm, placeInLine_lt hc⟩⟩

/-- The stream visits no pixel outside the rectangle (R19). -/
theorem contains_streamPixel (hk : k < r.w * r.h) :
    r.contains (streamPixel r o k).1 (streamPixel r o k).2 = true := by
  have hmod := mod_lineLength_lt (o := o) hk
  have hdiv := div_lineLength_lt (o := o) hk
  have hpos := Nat.zero_le (k / r.lineLength o)
  rw [contains_iff]
  unfold streamPixel
  unfold Rect.lineLength Rect.lineCount at *
  by_cases hrow : o.val < 4 <;> simp only [hrow, if_true, if_false] at hmod hdiv hpos ⊢ <;>
    split <;> split <;> omega

/-- Two stream positions visit two pixels (R19). -/
theorem streamPixel_inj {j : Nat} (hj : j < r.w * r.h) (hk : k < r.w * r.h)
    (h : streamPixel r o j = streamPixel r o k) : j = k := by
  have hc := contains_streamPixel (o := o) hk
  exact ((streamPixel_eq_iff hj hc).mp h).trans ((streamPixel_eq_iff hk hc).mp rfl).symm

end StreamOrder

/-- Table 2.2, its eight rows. -/
theorem streamPixel_of_orientation {r : Rect} {k : Nat} (hk : k < r.w * r.h) :
    streamPixel r 0 k = (r.x + k % r.w, r.y + k / r.w) ∧
    streamPixel r 1 k = (r.x + r.w - 1 - k % r.w, r.y + k / r.w) ∧
    streamPixel r 2 k = (r.x + k % r.w, r.y + r.h - 1 - k / r.w) ∧
    streamPixel r 3 k = (r.x + r.w - 1 - k % r.w, r.y + r.h - 1 - k / r.w) ∧
    streamPixel r 4 k = (r.x + k / r.h, r.y + k % r.h) ∧
    streamPixel r 5 k = (r.x + k / r.h, r.y + r.h - 1 - k % r.h) ∧
    streamPixel r 6 k = (r.x + r.w - 1 - k / r.h, r.y + k % r.h) ∧
    streamPixel r 7 k = (r.x + r.w - 1 - k / r.h, r.y + r.h - 1 - k % r.h) := by
  have hcol : k % r.w < r.w := mod_lineLength_lt (o := 0) hk
  have hrow : k / r.w < r.h := div_lineLength_lt (o := 0) hk
  have hcol' : k % r.h < r.h := mod_lineLength_lt (o := 4) hk
  have hrow' : k / r.h < r.w := div_lineLength_lt (o := 4) hk
  simp [streamPixel]
  omega

/-- Settles O14, by the pixel's stream position as the inverse of the stream order. -/
theorem streamOrder : Obligations.StreamOrder := by
  intro r hw hh
  refine ⟨fun k => streamPixel_of_orientation, fun o x y hc => ?_, fun o k => contains_streamPixel, ?_, ?_⟩
  · exact ⟨r.streamPosition o x y, ⟨streamPosition_lt hc, (streamPixel_eq_iff (streamPosition_lt hc) hc).mpr rfl⟩,
      fun k ⟨hk, hp⟩ => (streamPixel_eq_iff hk hc).mp hp⟩
  · rw [Rect.streamWords]
    omega
  · rw [Rect.streamWords]
    omega

end Sys2Proof.Machine

/-! PROOFS. The load window's commands (R21, R27, R32) and the stream port (R22, R24, R26): each step as its effect in a
part that takes it, then one lemma per row of the rule's table. -/

namespace Sys2Proof.Machine

/-! ### Steps that leave nothing over -/

/-- What the end of a step looks at is as it was. -/
def State.keeps (s t : State) : Prop :=
  t.slots = s.slots ∧ t.queue = s.queue ∧ t.dispatcher = s.dispatcher ∧
    t.scan.map Scan.kind = s.scan.map Scan.kind ∧ t.power = s.power

theorem settle_of_keeps {s t : State} (h : s.settled = true) (hk : s.keeps t) : t.settle = t := by
  obtain ⟨hslots, hqueue, hdispatcher, hscan, hpower⟩ := hk
  exact settle_of_same h hslots hqueue hdispatcher hscan hpower

theorem exec_of_keeps {s t : State} {c : Instr} (h : s.takes) (hc : route c ≠ none) (heffect : s.effect c = t)
    (hk : s.keeps t) : exec c s = .next t := by
  rw [exec_of_takes h hc, heffect, settle_of_keeps h.1.2 hk]

theorem exec_event_of_keeps {s t : State} {c : Instr} (h : s.runs) (hc : route c = some .event)
    (heffect : s.effect c = t) (hk : s.keeps t) : exec c s = .next t := by
  rw [exec_running_event hc h.1, heffect, settle_of_keeps h.2 hk]

/-! ### Arguments (Table 11.4) -/

theorem argOrientation_eq_none {s : State} (h : 8 ≤ (s.arg 4).toNat / 8 % 16) : s.argOrientation = none :=
  dif_neg (Nat.not_lt.mpr h)

theorem argOrientation_eq_some {s : State} (h : (s.arg 4).toNat / 8 % 16 < 8) :
    s.argOrientation = some (Fin.ofNat 8 ((s.arg 4).toNat / 8)) := by
  have hmod : (s.arg 4).toNat / 8 % 16 = (s.arg 4).toNat / 8 % 8 := by omega
  exact (dif_pos h).trans (congrArg some (Fin.ext hmod))

/-- The plane that a LOAD_OPEN's code names. -/
theorem argPlane_eq (s : State) : s.argPlane =
    if (s.arg 4).toNat / 2 % 4 = 3 then none
    else some (if (s.arg 4).toNat / 2 % 4 = 0 then .target
      else if (s.arg 4).toNat / 2 % 4 = 1 then .current else .frozen) := by
  have hcode : field (s.arg 4) 1 2 = (s.arg 4).toNat / 2 % 4 := rfl
  have hlt : (s.arg 4).toNat / 2 % 4 < 4 := Nat.mod_lt _ (by omega)
  unfold State.argPlane
  rw [hcode]
  interval_cases (s.arg 4).toNat / 2 % 4 <;> rfl

theorem bitOf_zero (w : Word) : bitOf w 0 = decide (w.toNat % 2 = 1) := Nat.testBit_zero w.toNat

/-! ### LOAD_OPEN and FILL (R21, R27) -/

theorem exec_loadOpen {s : State} (h : s.takes) :
    exec .loadOpen s = .next (s.loadOpen.1.answered 0x05 s.loadOpen.2) := by
  obtain ⟨hcommanded, -⟩ := commanded_plain s
  exact exec_of_keeps h (by simp [route]) hcommanded (by simp [State.keeps, State.answered])

theorem exec_fill {s : State} (h : s.takes) :
    exec .fill s = .next (s.startFill.1.answered 0x07 s.startFill.2) := by
  obtain ⟨-, -, hcommanded, -⟩ := commanded_plain s
  exact exec_of_keeps h (by simp [route]) hcommanded (by simp [State.keeps, State.answered])

section Open

variable {s : State}

theorem loadOpen_of_open (h : s.load.state ≠ .closed) : s.loadOpen = (s, .busy) := by
  simp [State.loadOpen, h]

theorem loadOpen_of_illegal (h : s.load.state = .closed)
    (hr : s.argRect.legal s.config.panelW s.config.panelH = false) : s.loadOpen = (s, .badRect) := by
  simp [State.loadOpen, h, hr]

/-- An orientation above 7, a code of no plane, or a write of a plane that is not TARGET. -/
theorem loadOpen_of_badArg (h : s.load.state = .closed)
    (hr : s.argRect.legal s.config.panelW s.config.panelH = true)
    (hbad : 8 ≤ (s.arg 4).toNat / 8 % 16 ∨ (s.arg 4).toNat / 2 % 4 = 3 ∨
      ((s.arg 4).toNat % 2 = 0 ∧ (s.arg 4).toNat / 2 % 4 ≠ 0)) : s.loadOpen = (s, .badArg) := by
  rcases hbad with horient | hplane | ⟨hdir, hplane⟩
  · simp [State.loadOpen, h, hr, argOrientation_eq_none horient]
  · simp only [State.loadOpen, h, hr, argPlane_eq, hplane]
    cases s.argOrientation <;> rfl
  · have hwrite : bitOf (s.arg 4) 0 = false := by simp [bitOf_zero, hdir]
    cases horient : s.argOrientation with
    | none => simp [State.loadOpen, h, hr, horient]
    | some o =>
      by_cases h3 : (s.arg 4).toNat / 2 % 4 = 3
      · simp [State.loadOpen, h, hr, horient, argPlane_eq, h3]
      · by_cases h1 : (s.arg 4).toNat / 2 % 4 = 1 <;>
          simp [State.loadOpen, h, hr, horient, argPlane_eq, hplane, h3, h1, hwrite]

theorem loadOpen_of_write (h : s.load.state = .closed)
    (hr : s.argRect.legal s.config.panelW s.config.panelH = true) (horient : (s.arg 4).toNat / 8 % 16 < 8)
    (hdir : (s.arg 4).toNat % 2 = 0) (hplane : (s.arg 4).toNat / 2 % 4 = 0) :
    s.loadOpen = ({ s with
      load := s.load.openStream .writing .write .target s.argRect (Fin.ofNat 8 ((s.arg 4).toNat / 8))
        (bitOf (s.arg 4) 7) s.argTemplate }, .accepted) := by
  simp [State.loadOpen, h, hr, argOrientation_eq_some horient, argPlane_eq, bitOf_zero, hdir, hplane]

theorem loadOpen_of_read (h : s.load.state = .closed)
    (hr : s.argRect.legal s.config.panelW s.config.panelH = true) (horient : (s.arg 4).toNat / 8 % 16 < 8)
    (hdir : (s.arg 4).toNat % 2 = 1) (hplane : (s.arg 4).toNat / 2 % 4 ≠ 3) :
    s.loadOpen = ({ s with
      load := s.load.openStream .reading .read
        (if (s.arg 4).toNat / 2 % 4 = 0 then .target else if (s.arg 4).toNat / 2 % 4 = 1 then .current else .frozen)
        s.argRect (Fin.ofNat 8 ((s.arg 4).toNat / 8)) false s.argTemplate }, .accepted) := by
  simp [State.loadOpen, h, hr, argOrientation_eq_some horient, argPlane_eq, bitOf_zero, hdir, hplane]

theorem startFill_of_open (h : s.load.state ≠ .closed) : s.startFill = (s, .busy) := by
  simp [State.startFill, h]

theorem startFill_of_illegal (h : s.load.state = .closed)
    (hr : s.argRect.legal s.config.panelW s.config.panelH = false) : s.startFill = (s, .badRect) := by
  simp [State.startFill, h, hr]

theorem startFill_of_legal (h : s.load.state = .closed)
    (hr : s.argRect.legal s.config.panelW s.config.panelH = true) :
    s.startFill = ({ s with load := { s.load with
      state := .filling, direction := .fill, plane := .target, rect := s.argRect, orientation := 0, streamCount := 0,
      remaining := s.argRect.w * s.argRect.h, closeRequested := false, autoSubmit := bitOf (s.arg 4) 7,
      template := s.argTemplate, fillLevel := fieldBits (s.arg 4) 0 4, fifo := [], wordPos := 0, assembled := [],
      retriesOwed := 0 } }, .accepted) := by
  simp [State.startFill, h, hr]

end Open

theorem toNat_fieldBits (w : Word) (lo len : Nat) : (fieldBits w lo len).toNat = w.toNat / 2 ^ lo % 2 ^ len := by
  rw [fieldBits, BitVec.extractLsb'_toNat, Nat.shiftRight_eq_div_pow]

/-- Settles O15, by the rows of R21's and R27's tables. -/
theorem windowsOpen : Obligations.WindowsOpen := by
  intro s h
  refine ⟨?_, fieldBits (s.arg 4) 0 4, by simp [toNat_fieldBits], ?_⟩
  · rw [exec_loadOpen h]
    congr 1
    by_cases hopen : s.load.state ≠ .closed
    · rw [if_pos hopen, loadOpen_of_open hopen]
    rw [if_neg hopen]
    rw [not_not] at hopen
    cases hr : s.argRect.legal s.config.panelW s.config.panelH
    · rw [if_pos rfl, loadOpen_of_illegal hopen hr]
    rw [if_neg (by simp)]
    split
    · rename_i hbad
      rw [loadOpen_of_badArg hopen hr hbad]
    · rename_i hgood
      simp only [not_or, not_and_or, not_not, not_le] at hgood
      obtain ⟨horient, hplane, hdir⟩ := hgood
      rcases Nat.mod_two_eq_zero_or_one (s.arg 4).toNat with h0 | h1
      · have htarget := hdir.resolve_left (not_not.mpr h0)
        have hauto : bitOf (s.arg 4) 7 = (s.arg 4).toNat.testBit 7 := rfl
        rw [loadOpen_of_write hopen hr horient h0 htarget]
        simp [h0, htarget, hauto, State.answered, LoadEngine.openStream]
      · rw [loadOpen_of_read hopen hr horient h1 hplane]
        simp [h1, State.answered, LoadEngine.openStream]
  · rw [exec_fill h]
    congr 1
    by_cases hopen : s.load.state ≠ .closed
    · rw [if_pos hopen, startFill_of_open hopen]
    rw [if_neg hopen]
    rw [not_not] at hopen
    cases hr : s.argRect.legal s.config.panelW s.config.panelH
    · rw [if_pos rfl, startFill_of_illegal hopen hr]
    · rw [if_neg (by simp), startFill_of_legal hopen hr]
      rfl

/-! ### LOAD_CLOSE (R32) -/

theorem exec_loadClose {s : State} (h : s.takes) :
    exec .loadClose s = .next (s.loadClose.1.answered 0x06 s.loadClose.2) := by
  obtain ⟨-, hcommanded, -⟩ := commanded_plain s
  exact exec_of_keeps h (by simp [route]) hcommanded (by simp [State.keeps, State.answered])

/-- Settles O16, by the six states of Table 2.1. -/
theorem loadCloseAnswers : Obligations.LoadCloseAnswers := by
  intro s h
  rw [exec_loadClose h, State.loadClose]
  cases hst : s.load.state
  case writing =>
    by_cases hfifo : s.load.fifo = []
    · simp only [hfifo]
      rfl
    · simp only [List.isEmpty_iff, hfifo, if_false]
      rfl
  all_goals rfl

/-! ### LOAD_DATA (R22, R24, R26) -/

theorem exec_loadDataWrite {s : State} (h : s.takes) (port : StreamPort) (w : Word) :
    exec (.loadDataWrite port w) s = .next (s.writeStream w) :=
  exec_of_keeps h (by simp [route]) rfl (by simp [State.keeps])

theorem exec_loadDataRead {s : State} (h : s.takes) (port : StreamPort) :
    exec (.loadDataRead port) s = .next s.readStream :=
  exec_of_keeps h (by simp [route]) rfl (by simp [State.keeps])

section Port

variable {s : State}

/-- A word received joins the FIFO, and the last of the stream ends WRITING (R22). -/
theorem receiveWord_of_writing (h : s.load.state = .writing) (w : Word) :
    s.receiveWord w = { s with load := { s.load with
      fifo := s.load.fifo ++ [w], streamCount := s.load.streamCount - 1,
      state := if s.load.streamCount ≤ 1 then .draining else .writing } } := by
  simp only [State.receiveWord, h, Nat.sub_eq_zero_iff_le]

/-- A word delivered that is not the last leaves the window open (R26). -/
theorem deliverWord_of_more (h : 1 < s.load.streamCount) (head : Word) (rest : List Word) :
    s.deliverWord head rest = { s with
      bus := { s.bus with busData := head },
      load := { s.load with fifo := rest, streamCount := s.load.streamCount - 1 } } := by
  have hmore : ¬s.load.streamCount - 1 = 0 := by omega
  simp only [State.deliverWord, hmore, if_false]

/-- The last word delivered closes the window with LOAD_END (R26). -/
theorem deliverWord_of_last (h : s.load.streamCount ≤ 1) (head : Word) (rest : List Word) :
    s.deliverWord head rest = { s with
      bus := { s.bus with busData := head },
      load := { LoadEngine.reset with
        endReason := .complete, errReason := s.load.errReason, loadResult := s.load.loadResult },
      events := s.events ||| (1#10 <<< 2) } := by
  have hlast : s.load.streamCount - 1 = 0 := by omega
  simp only [State.deliverWord, hlast, if_true]
  rfl

theorem writeStream_of_room (h : s.load.state = .writing) (hroom : s.load.fifo.length < 32) (w : Word) :
    s.writeStream w = s.receiveWord w := by
  rw [State.writeStream, if_pos h]
  exact if_pos hroom

theorem writeStream_of_full (h : s.load.state = .writing) (hfull : 32 ≤ s.load.fifo.length) (w : Word) :
    s.writeStream w = { s with bus := { s.bus with stretched := some (.write w) } } := by
  rw [State.writeStream, if_pos h]
  exact if_neg (Nat.not_lt.mpr hfull)

theorem writeStream_of_not_writing (h : s.load.state ≠ .writing) (w : Word) : s.writeStream w = s.overrun :=
  if_neg h

theorem readStream_of_cons (h : s.load.state = .reading) {head : Word} {rest : List Word}
    (hfifo : s.load.fifo = head :: rest) : s.readStream = s.deliverWord head rest := by
  simp only [State.readStream, h, if_true, hfifo]

theorem readStream_of_empty (h : s.load.state = .reading) (hfifo : s.load.fifo = []) :
    s.readStream = { s with bus := { s.bus with stretched := some .read } } := by
  simp only [State.readStream, h, if_true, hfifo]

theorem readStream_of_not_reading (h : s.load.state ≠ .reading) :
    s.readStream = State.overrun { s with bus := { s.bus with busData := 0 } } :=
  if_neg h

end Port

/-- Settles O17, by the engine's state and the FIFO. -/
theorem streamPortAccesses : Obligations.StreamPortAccesses := by
  intro s port w h
  rw [exec_loadDataWrite h, exec_loadDataRead h]
  refine ⟨fun hst hroom => ?_, fun hst hfull => ?_, fun hst => ?_, fun head rest hst hfifo hmore => ?_,
    fun head rest hst hfifo hlast => ?_, fun hst hfifo => ?_, fun hst => ?_⟩
  · rw [writeStream_of_room hst hroom, receiveWord_of_writing hst]
  · rw [writeStream_of_full hst hfull]
  · rw [writeStream_of_not_writing hst]
    rfl
  · rw [readStream_of_cons hst hfifo, deliverWord_of_more hmore]
  · rw [readStream_of_cons hst hfifo, deliverWord_of_last hlast]
  · rw [readStream_of_empty hst hfifo]
  · rw [readStream_of_not_reading hst]
    rfl

end Sys2Proof.Machine

/-! PROOFS. The endings of a window (R29 to R32): the end of a drain and of a fill with nothing left to write, and the
three outcomes of a presentation. -/

namespace Sys2Proof.Machine

/-! ### Requests (R61, R62) -/

/-- An accepted request names a mode. -/
theorem modeNumber_of_accepted {s : State} {q : Request} (h : s.checkRequest q = .accepted) :
    ∃ m : Fin 8, m.val = q.mode.toNat ∧ modeNumber q.mode = some m := by
  by_cases hlt : q.mode.toNat < 8
  · exact ⟨⟨q.mode.toNat, hlt⟩, rfl, dif_pos hlt⟩
  · have hnone : modeNumber q.mode = none := dif_neg hlt
    simp only [State.checkRequest, hnone] at h
    split at h
    · cases h
    · split at h
      · cases h
      · split at h <;> cases h

/-- A pass that begins over a queue with a WAITING entry has an entry to examine (R76). -/
theorem settled_startPass {s : State} (hdue : s.noneDue) (hscan : s.scanHome)
    (hpass : s.dispatcher.passInProgress = true → s.queue.any Entry.toExamine = true) {e : Entry} (he : e ∈ s.queue)
    (hwait : e.state = .waiting) : s.startPass.settled = true := by
  rw [settled_iff]
  refine ⟨by simpa [State.noneDue, State.anyActive, State.slot] using hdue, by simpa [State.scanHome] using hscan,
    fun _ => ?_⟩
  unfold State.startPass
  split
  · exact hpass ‹_›
  · simp only [State.markDue, List.any_map, List.any_eq_true]
    exact ⟨e, he, by simp [Entry.toExamine, hwait]⟩

theorem settled_startPass_append {s : State} (h : s.settled = true) {e : Entry} (hwait : e.state = .waiting) :
    (State.startPass { s with queue := s.queue ++ [e] }).settled = true := by
  obtain ⟨hdue, hscan, hpass⟩ := (settled_iff s).mp h
  refine settled_startPass (e := e) hdue hscan (fun hp => ?_) (by simp) hwait
  rw [List.any_append, hpass hp, Bool.true_or]

theorem endWindow_startPass (s : State) (r : EndReason) : s.startPass.endWindow r = (s.endWindow r).startPass := by
  have hdispatcher : (s.endWindow r).dispatcher = s.dispatcher := rfl
  unfold State.startPass
  rw [hdispatcher]
  split <;> rfl

/-! ### The three outcomes of a presentation (R30) -/

theorem settled_endWindow {s : State} (h : s.settled = true) (r : EndReason) : (s.endWindow r).settled = true :=
  (settled_congr rfl rfl rfl rfl rfl).trans h

/-- The entry that an accepted presentation of the window joins to the queue, in mode m. -/
def LoadEngine.entry (l : LoadEngine) (m : Fin 8) : Entry :=
  ⟨l.template.tag, l.rect, m, l.template.notify, l.template.noPromote, 0, .waiting, false⟩

theorem newEntry_request (s : State) (m : Fin 8) : s.newEntry s.load.request m = s.load.entry m := by
  unfold State.newEntry LoadEngine.request LoadEngine.entry
  rw [ite_self]

theorem present_of_accepted {s : State} (h : s.checkRequest s.load.request = .accepted) :
    ∃ m : Fin 8, m.val = s.load.template.mode.toNat ∧
      s.present = State.startPass { s.endWindow .complete with queue := s.queue ++ [s.load.entry m] } := by
  obtain ⟨m, hval, hm⟩ := modeNumber_of_accepted h
  refine ⟨m, hval, ?_⟩
  simp only [State.present, h, State.acceptRequest, hm, newEntry_request, endWindow_startPass]
  rfl

theorem present_of_queueFull {s : State} (h : s.checkRequest s.load.request = .queueFull) :
    s.present = { s with load := { s.load with state := .autoPending } } := by
  simp only [State.present, h]

theorem present_of_refused {s : State} {r : Result} (h : s.checkRequest s.load.request = r) (haccepted : r ≠ .accepted)
    (hfull : r ≠ .queueFull) :
    s.present =
      State.raise { s with load := { s.load.closed with errReason := .autoRefused, loadResult := r } } .loadErr := by
  unfold State.present
  split
  · exact absurd (h.symm.trans ‹_›) haccepted
  · exact absurd (h.symm.trans ‹_›) hfull
  · rw [h]

/-- A presentation leaves nothing for the end of the step: an accepted request is there to be examined. -/
theorem settle_present {s : State} (h : s.settled = true) : s.present.settle = s.present := by
  apply settle_of_settled
  by_cases haccepted : s.checkRequest s.load.request = .accepted
  · obtain ⟨m, -, heq⟩ := present_of_accepted haccepted
    rw [heq]
    exact settled_startPass_append (settled_endWindow h .complete) rfl
  by_cases hfull : s.checkRequest s.load.request = .queueFull
  · rw [present_of_queueFull hfull]
    exact (settled_congr rfl rfl rfl rfl rfl).trans h
  · rw [present_of_refused rfl haccepted hfull]
    exact (settled_congr rfl rfl rfl rfl rfl).trans h

/-! ### The ends with nothing left to write (R29, R32) -/

section Ends

variable {s : State}

theorem exec_drainEnd (h : s.phase = .running) : exec .drainEnd s = .next s.endDrain.settle :=
  exec_running_event rfl h

theorem exec_fillEnd (h : s.phase = .running) : exec .fillEnd s = .next s.endFill.settle :=
  exec_running_event rfl h

theorem exec_autoPresentationRetry (h : s.phase = .running) :
    exec .autoPresentationRetry s = .next s.presentAgain.settle :=
  exec_running_event rfl h

theorem settle_endWindow (h : s.settled = true) (r : EndReason) : (s.endWindow r).settle = s.endWindow r :=
  settle_of_settled (settled_endWindow h r)

theorem endDrain_of_not_draining (h : s.load.state ≠ .draining) : s.endDrain = s := if_neg h

theorem endDrain_of_empty (h : s.load.state = .draining) (hfifo : s.load.fifo = []) :
    s.endDrain = if s.load.closeRequested then s.endWindow .short else s.completeWindow := by
  simp [State.endDrain, h, hfifo, serveLoad_of_stop]

theorem endFill_of_not_filling (h : s.load.state ≠ .filling) : s.endFill = s := if_neg h

theorem endFill_of_done (h : s.load.state = .filling) (hrem : s.load.remaining = 0) :
    s.endFill = s.completeWindow := by
  simp [State.endFill, h, hrem, serveLoad_of_stop]

theorem completeWindow_of_auto (h : s.load.autoSubmit = true) : s.completeWindow = s.present := if_pos h

theorem completeWindow_of_no_auto (h : s.load.autoSubmit = false) : s.completeWindow = s.endWindow .complete := by
  simp [State.completeWindow, h]

theorem presentAgain_of_owed (h : s.load.state = .autoPending) (howed : 0 < s.load.retriesOwed) :
    s.presentAgain = State.present { s with load := { s.load with retriesOwed := s.load.retriesOwed - 1 } } :=
  if_pos ⟨h, howed⟩

theorem presentAgain_of_none_owed (h : s.load.state ≠ .autoPending ∨ s.load.retriesOwed = 0) : s.presentAgain = s := by
  refine if_neg fun ⟨hst, howed⟩ => ?_
  rcases h with h | h
  · exact h hst
  · omega

/-- The short ending of a drain (R32). -/
theorem exec_drainEnd_short (h : s.runs) (hst : s.load.state = .draining) (hfifo : s.load.fifo = [])
    (hclose : s.load.closeRequested = true) : exec .drainEnd s = .next (s.endWindow .short) := by
  rw [exec_drainEnd h.1, endDrain_of_empty hst hfifo, if_pos hclose, settle_endWindow h.2]

/-- The completion of a drain without auto-submit (R29). -/
theorem exec_drainEnd_complete (h : s.runs) (hst : s.load.state = .draining) (hfifo : s.load.fifo = [])
    (hclose : s.load.closeRequested = false) (hauto : s.load.autoSubmit = false) :
    exec .drainEnd s = .next (s.endWindow .complete) := by
  rw [exec_drainEnd h.1, endDrain_of_empty hst hfifo, if_neg (by simp [hclose]), completeWindow_of_no_auto hauto,
    settle_endWindow h.2]

theorem exec_drainEnd_present (h : s.runs) (hst : s.load.state = .draining) (hfifo : s.load.fifo = [])
    (hclose : s.load.closeRequested = false) (hauto : s.load.autoSubmit = true) :
    exec .drainEnd s = .next s.present := by
  rw [exec_drainEnd h.1, endDrain_of_empty hst hfifo, if_neg (by simp [hclose]), completeWindow_of_auto hauto,
    settle_present h.2]

theorem exec_fillEnd_complete (h : s.runs) (hst : s.load.state = .filling) (hrem : s.load.remaining = 0)
    (hauto : s.load.autoSubmit = false) : exec .fillEnd s = .next (s.endWindow .complete) := by
  rw [exec_fillEnd h.1, endFill_of_done hst hrem, completeWindow_of_no_auto hauto, settle_endWindow h.2]

theorem exec_fillEnd_present (h : s.runs) (hst : s.load.state = .filling) (hrem : s.load.remaining = 0)
    (hauto : s.load.autoSubmit = true) : exec .fillEnd s = .next s.present := by
  rw [exec_fillEnd h.1, endFill_of_done hst hrem, completeWindow_of_auto hauto, settle_present h.2]

theorem exec_autoPresentationRetry_present (h : s.runs) (hst : s.load.state = .autoPending)
    (howed : 0 < s.load.retriesOwed) :
    exec .autoPresentationRetry s =
      .next (State.present { s with load := { s.load with retriesOwed := s.load.retriesOwed - 1 } }) := by
  rw [exec_autoPresentationRetry h.1, presentAgain_of_owed hst howed]
  exact congrArg _ (settle_present ((settled_congr rfl rfl rfl rfl rfl).trans h.2))

end Ends

/-- The three outcomes of a presentation made with `owed` presentations still to make. -/
theorem present_outcomes (s : State) (owed : Nat) :
    let u : State := { s with load := { s.load with retriesOwed := owed } }
    (s.checkRequest s.load.request = .accepted → ∃ m : Fin 8, m.val = s.load.template.mode.toNat ∧
      (.next u.present : Answer) =
        .next (State.startPass { s.endWindow .complete with queue := s.queue ++ [s.load.entry m] })) ∧
    (s.checkRequest s.load.request = .queueFull →
      (.next u.present : Answer) =
        .next { s with load := { s.load with state := .autoPending, retriesOwed := owed } }) ∧
    (∀ r, s.checkRequest s.load.request = r → r ≠ .accepted → r ≠ .queueFull →
      (.next u.present : Answer) =
        .next (State.raise { s with load := { s.load.closed with errReason := .autoRefused, loadResult := r } }
          .loadErr)) := by
  intro u
  refine ⟨fun h => ?_, fun h => ?_, fun r h haccepted hfull => ?_⟩
  · obtain ⟨m, hm, heq⟩ := present_of_accepted (s := u) h
    exact ⟨m, hm, congrArg _ heq⟩
  · exact congrArg _ (present_of_queueFull (s := u) h)
  · exact congrArg _ (present_of_refused (s := u) h haccepted hfull)

/-- Settles O23, by the engine's state and the outcome of the presentation. -/
theorem windowEndings : Obligations.WindowEndings := by
  intro s h
  refine ⟨exec_drainEnd_short h, exec_drainEnd_complete h, fun hst hfifo hclose hauto => ?_, fun hst => ?_,
    exec_fillEnd_complete h, fun hst hrem hauto => ?_, fun hst => ?_, fun hst howed => ?_, fun hnone => ?_⟩
  · rw [exec_drainEnd_present h hst hfifo hclose hauto]
    exact present_outcomes s s.load.retriesOwed
  · rw [exec_drainEnd h.1, endDrain_of_not_draining hst, settle_of_settled h.2]
  · rw [exec_fillEnd_present h hst hrem hauto]
    exact present_outcomes s s.load.retriesOwed
  · rw [exec_fillEnd h.1, endFill_of_not_filling hst, settle_of_settled h.2]
  · rw [exec_autoPresentationRetry_present h hst howed]
    exact present_outcomes s (s.load.retriesOwed - 1)
  · rw [exec_autoPresentationRetry h.1, presentAgain_of_none_owed hnone, settle_of_settled h.2]

end Sys2Proof.Machine

/-! PROOFS. One access of the Load Engine at the memory port (R6, R23, R25, R28): the pixels it carries, what it writes
or reads, and what it leaves alone. -/

namespace Sys2Proof.Machine

/-! ### Levels written at stream positions -/

/-- The planes after levels have been written at pixels of TARGET. -/
def ImageMemory.writeLevels (m : ImageMemory) : List ((Nat × Nat) × Level) → ImageMemory
  | [] => m
  | (p, l) :: t => (m.setPlane .target ((m.plane .target).write (pixelAddress p.1 p.2) l)).writeLevels t

/-- The planes after levels have been written in TARGET at `n` stream positions from `k` on, each position's own. -/
def ImageMemory.writePositions (m : ImageMemory) (r : Rect) (o : Fin 8) (f : Nat → Level) (k n : Nat) : ImageMemory :=
  m.writeLevels ((List.range' k n).map fun j => (streamPixel r o j, f j))

/-- A write of the Load Engine changes the planes alone. -/
theorem writeTarget_eq (s : State) (cs : List ((Nat × Nat) × Level)) :
    s.writeTarget cs = { s with image := s.image.writeLevels cs } := by
  induction cs generalizing s with
  | nil => rfl
  | cons c t ih => exact ih (s.writePixel .target c.1.1 c.1.2 c.2)

theorem writeLevels_append (m : ImageMemory) (cs ds : List ((Nat × Nat) × Level)) :
    m.writeLevels (cs ++ ds) = (m.writeLevels cs).writeLevels ds := by
  induction cs generalizing m with
  | nil => rfl
  | cons c t ih => exact ih _

theorem writePositions_add (m : ImageMemory) (r : Rect) (o : Fin 8) (f : Nat → Level) (k a b : Nat) :
    m.writePositions r o f k (a + b) = (m.writePositions r o f k a).writePositions r o f (k + a) b := by
  rw [ImageMemory.writePositions, ← List.range'_append_1, List.map_append, writeLevels_append]
  rfl

theorem writePositions_congr (m : ImageMemory) (r : Rect) (o : Fin 8) {f g : Nat → Level} {k n : Nat}
    (h : ∀ j, k ≤ j → j < k + n → f j = g j) : m.writePositions r o f k n = m.writePositions r o g k n := by
  unfold ImageMemory.writePositions
  congr 1
  refine List.map_congr_left fun j hj => ?_
  obtain ⟨hlo, hhi⟩ := List.mem_range'_1.mp hj
  rw [h j hlo hhi]

section WritePositions

variable {s t : State} {r : Rect} {o : Fin 8} {f : Nat → Level} {k n : Nat}

theorem column_streamPixel_lt {j : Nat} (hr : r.legal 1024 768 = true) (hj : j < r.w * r.h) :
    (streamPixel r o j).1 < 1024 := by
  obtain ⟨-, hx, -⟩ := (contains_iff _ _ _).mp (contains_streamPixel (o := o) hj)
  obtain ⟨-, -, hw, -⟩ := (legal_iff _ _ _).mp hr
  omega

/-- A pixel at none of the positions keeps its level. -/
theorem pixel_writePositions_of_not_mem (ht : t.image = s.image.writePositions r o f k n)
    (hfree : t.freeIndex = s.freeIndex) (hr : r.legal 1024 768 = true) (hend : k + n ≤ r.w * r.h)
    {p : Plane} {x y : Nat}
    (hx : x < 1024) (h : p ≠ .target ∨ ∀ i, i < n → (x, y) ≠ streamPixel r o (k + i)) :
    t.pixel p x y = s.pixel p x y := by
  induction n generalizing s k with
  | zero => exact pixel_of_image ht hfree p x y
  | succ n ih =>
    have hfirst : ¬(p = .target ∧ x = (streamPixel r o k).1 ∧ y = (streamPixel r o k).2) := by
      rintro ⟨hp, hxk, hyk⟩
      rcases h with h | h
      · exact h hp
      · exact h 0 (by omega) (Prod.ext hxk hyk)
    have hlater : p ≠ .target ∨ ∀ i, i < n → (x, y) ≠ streamPixel r o (k + 1 + i) :=
      h.imp_right fun h i hi => by
        rw [Nat.add_right_comm]
        exact h (i + 1) (by omega)
    rw [ih (s := s.writePixel .target (streamPixel r o k).1 (streamPixel r o k).2 (f k)) ht hfree (by omega) hlater,
      pixel_writePixel _ _ _ _ _ _ _ _ (column_streamPixel_lt hr (by omega)) hx, if_neg hfirst]

/-- The pixel at each of the positions takes the level of its position. -/
theorem pixel_writePositions_of_mem (ht : t.image = s.image.writePositions r o f k n)
    (hfree : t.freeIndex = s.freeIndex) (hr : r.legal 1024 768 = true) (hend : k + n ≤ r.w * r.h)
    {j : Nat} (hlo : k ≤ j)
    (hhi : j < k + n) : t.pixel .target (streamPixel r o j).1 (streamPixel r o j).2 = f j := by
  induction n generalizing s k with
  | zero => omega
  | succ n ih =>
    have hcol := column_streamPixel_lt (o := o) hr (show j < r.w * r.h by omega)
    rcases Nat.eq_or_lt_of_le hlo with rfl | hlt
    · have hlater : ∀ i, i < n → streamPixel r o k ≠ streamPixel r o (k + 1 + i) := fun i hi heq => by
        have := streamPixel_inj (by omega) (by omega) heq
        omega
      refine (pixel_writePositions_of_not_mem
        (s := s.writePixel .target (streamPixel r o k).1 (streamPixel r o k).2 (f k)) ht hfree hr (by omega) hcol
        (.inr hlater)).trans ?_
      rw [pixel_writePixel _ _ _ _ _ _ _ _ hcol hcol, if_pos ⟨rfl, rfl, rfl⟩]
    · exact ih (s := s.writePixel .target (streamPixel r o k).1 (streamPixel r o k).2 (f k)) ht hfree (by omega)
        (by omega) (by omega)

end WritePositions

/-! ### The pixels that one access carries (R23, R25, R28) -/

/-- One access from stream position `k` on, with `n` pixels left to it, carries the first `m` of them: those up to the
first that lies in another quad. -/
structure LoadEngine.Carries (l : LoadEngine) (k n m : Nat) : Prop where
  pos : 1 ≤ m
  le : m ≤ n
  same : ∀ i, i < m → (streamPixel l.rect l.orientation (k + i)).2 = (streamPixel l.rect l.orientation k).2 ∧
    (streamPixel l.rect l.orientation (k + i)).1 / 4 = (streamPixel l.rect l.orientation k).1 / 4
  next : m < n → ¬((streamPixel l.rect l.orientation (k + m)).2 = (streamPixel l.rect l.orientation k).2 ∧
    (streamPixel l.rect l.orientation (k + m)).1 / 4 = (streamPixel l.rect l.orientation k).1 / 4)

theorem sameQuad_iff (a b : Nat × Nat) : sameQuad a b = true ↔ b.2 = a.2 ∧ b.1 / 4 = a.1 / 4 := by
  rw [sameQuad, Bool.and_eq_true, beq_iff_eq, beq_iff_eq]
  exact and_congr eq_comm eq_comm

/-- The values of a function at consecutive places, as far as they meet a test. -/
theorem takeWhile_map_range' {α : Type} (p : α → Bool) (g : Nat → α) (k n : Nat) :
    ∃ m, m ≤ n ∧ ((List.range' k n).map g).takeWhile p = (List.range' k m).map g ∧
      (∀ i, i < m → p (g (k + i)) = true) ∧ (m < n → p (g (k + m)) = false) := by
  induction n generalizing k with
  | zero => exact ⟨0, le_refl _, rfl, by omega, by omega⟩
  | succ n ih =>
    cases hk : p (g k) with
    | false => exact ⟨0, by omega, by simp [List.range'_succ, hk], by omega, fun _ => hk⟩
    | true =>
      obtain ⟨m, hle, heq, hall, hnext⟩ := ih (k + 1)
      refine ⟨m + 1, by omega, by simp [List.range'_succ, hk, heq], fun i hi => ?_, fun hm => ?_⟩
      · cases i with
        | zero => exact hk
        | succ i => rw [show k + (i + 1) = k + 1 + i by omega]; exact hall i (by omega)
      · rw [show k + (m + 1) = k + 1 + m by omega]
        exact hnext (by omega)

/-- The pixels of an access, as a run of stream positions. -/
theorem exists_run (l : LoadEngine) (k : Nat) {n : Nat} (hn : 0 < n) :
    ∃ m, l.Carries k n m ∧ l.run k n = (List.range' k m).map (streamPixel l.rect l.orientation) := by
  obtain ⟨m, hle, heq, hall, hnext⟩ :=
    takeWhile_map_range' (sameQuad (streamPixel l.rect l.orientation k)) (streamPixel l.rect l.orientation) k n
  refine ⟨m, ⟨?_, hle, fun i hi => (sameQuad_iff _ _).mp (hall i hi), fun hm => ?_⟩, heq⟩
  · by_contra hzero
    obtain rfl : m = 0 := by omega
    have := hnext hn
    simp [sameQuad] at this
  · rw [← sameQuad_iff, hnext hm]
    simp

theorem wordPixels_eq (l : LoadEngine) : l.wordPixels = min 4 l.remaining := by
  unfold LoadEngine.wordPixels
  split <;> omega

/-! ### The nibbles of the stream (R20) -/

theorem toNat_nibble (w : Word) (i : Nat) : (nibble w i).toNat = w.toNat / 16 ^ i % 16 := by
  rw [nibble, toNat_fieldBits, Nat.pow_mul]
  norm_num

/-- The level that the words in the FIFO carry at a stream position, the head word at the engine's position. -/
def LoadEngine.streamLevel (l : LoadEngine) (k : Nat) : Level :=
  nibble (l.fifo.getD ((k - l.position) / 4) 0) ((k - l.position) % 4)

theorem toNat_streamLevel {l : LoadEngine} {k : Nat} {w : Word} (h : l.fifo[k / 4]? = some w) :
    (l.streamLevel (l.position + k)).toNat = w.toNat / 16 ^ (k % 4) % 16 := by
  rw [LoadEngine.streamLevel, Nat.add_sub_cancel_left, List.getD_eq_getElem?_getD, h, Option.getD_some, toNat_nibble]

/-- The nibbles of the head word, by their places in the word. -/
theorem streamLevel_of_head {l : LoadEngine} {head : Word} {rest : List Word} (h : l.fifo = head :: rest) {i : Nat}
    (hi : i < 4) : l.streamLevel (l.position + i) = nibble head i := by
  rw [LoadEngine.streamLevel, Nat.add_sub_cancel_left, Nat.div_eq_of_lt hi, Nat.mod_eq_of_lt hi, h]
  rfl

/-- Pixels of the head word written from the first unwritten one on: each takes its nibble, and no other pixel
changes. -/
theorem pixel_of_head_written {s t : State} {head : Word} {rest : List Word} {n : Nat}
    (ht : t.image = s.image.writePositions s.load.rect s.load.orientation s.load.streamLevel
      (s.load.position + s.load.wordPos) n)
    (hfree : t.freeIndex = s.freeIndex) (hfifo : s.load.fifo = head :: rest) (hr : s.load.rect.legal 1024 768 = true)
    (hrem : s.load.remaining ≤ s.load.rect.w * s.load.rect.h) (hn : s.load.wordPos + n ≤ min 4 s.load.remaining) :
    let place (i : Nat) := streamPixel s.load.rect s.load.orientation (s.load.position + s.load.wordPos + i)
    (∀ i, i < n → (t.pixel .target (place i).1 (place i).2).toNat = head.toNat / 16 ^ (s.load.wordPos + i) % 16) ∧
    (∀ p x y, x < 1024 → (p ≠ .target ∨ ∀ i, i < n → (x, y) ≠ place i) → t.pixel p x y = s.pixel p x y) := by
  have hend : s.load.position + s.load.remaining = s.load.rect.w * s.load.rect.h := Nat.sub_add_cancel hrem
  refine ⟨fun i hi => ?_, fun p x y hx => pixel_writePositions_of_not_mem ht hfree hr (by omega) hx⟩
  rw [pixel_writePositions_of_mem ht hfree hr (by omega) (by omega) (by omega), Nat.add_assoc,
    streamLevel_of_head hfifo (by omega), toNat_nibble]

/-! ### The engine's waiting access (Table 2.1) -/

section Access

variable {s : State}

theorem loadAccess_of_word {head : Word} {rest : List Word} (hst : s.load.state = .writing ∨ s.load.state = .draining)
    (hfifo : s.load.fifo = head :: rest) (hrem : 0 < s.load.remaining) : s.loadAccess = s.streamWrite head rest := by
  rcases hst with hst | hst <;> simp [State.loadAccess, LoadEngine.waiting, hst, hfifo, hrem]

theorem loadAccess_of_reading (hst : s.load.state = .reading) (hroom : s.load.fifo.length < 32)
    (hrem : 0 < s.load.remaining) : s.loadAccess = s.prefetchRead := by
  have hplace : s.load.fifo.length < Config.fifoPlaces := hroom
  simp [State.loadAccess, LoadEngine.waiting, hst, hplace, hrem]

theorem loadAccess_of_filling (hst : s.load.state = .filling) (hrem : 0 < s.load.remaining) :
    s.loadAccess = s.fillWrite := by
  simp [State.loadAccess, LoadEngine.waiting, hst, hrem]

theorem exec_quadAccess_of_load (h : s.runs) (hnone : ∀ sc, s.scan = some sc → s.scanQuad sc = none)
    (hjobs : s.jobs = []) : exec .quadAccess s = .next s.loadAccess := by
  rw [exec_quadAccess h, quadAccess_of_none hnone, State.lowerAccess, hjobs]
  rfl

/-! ### A quad write of a write window (R23) -/

/-- The record after the last pixel of the head word has been written: the word leaves the FIFO. -/
def LoadEngine.afterWord (l : LoadEngine) (rest : List Word) : LoadEngine :=
  { l with fifo := rest, wordPos := 0, remaining := l.remaining - min 4 l.remaining }

/-- The record after a write that carries `m` pixels of the head word. -/
def LoadEngine.afterWrite (l : LoadEngine) (rest : List Word) (m : Nat) : LoadEngine :=
  if m = min 4 l.remaining - l.wordPos then l.afterWord rest else { l with wordPos := l.wordPos + m }

theorem exists_streamWrite {head : Word} {rest : List Word} (hfifo : s.load.fifo = head :: rest)
    (hleft : s.load.wordPos < min 4 s.load.remaining) :
    ∃ m, s.load.Carries (s.load.position + s.load.wordPos) (min 4 s.load.remaining - s.load.wordPos) m ∧
      s.streamWrite head rest =
        { s with
          image := s.image.writePositions s.load.rect s.load.orientation s.load.streamLevel
            (s.load.position + s.load.wordPos) m
          load := s.load.afterWrite rest m } := by
  obtain ⟨m, hcarries, hrun⟩ :=
    exists_run s.load (s.load.position + s.load.wordPos) (Nat.sub_pos_of_lt hleft)
  have hle := hcarries.le
  have hlength : ((List.range' (s.load.position + s.load.wordPos) m).map
      (streamPixel s.load.rect s.load.orientation)).length = m := by simp
  have hlevels : (List.range' s.load.wordPos m).map (nibble head) =
      (List.range' (s.load.position + s.load.wordPos) m).map s.load.streamLevel := by
    rw [← List.map_add_range', List.map_map]
    refine List.map_congr_left fun j hj => (streamLevel_of_head hfifo ?_).symm
    have := (List.mem_range'_1.mp hj).2
    omega
  refine ⟨m, hcarries, ?_⟩
  simp only [State.streamWrite, wordPixels_eq, hrun, hlength, hlevels, List.zip_map', writeTarget_eq,
    LoadEngine.afterWrite]
  by_cases hm : m = min 4 s.load.remaining - s.load.wordPos
  · rw [if_pos hm, if_pos (by omega)]
    rfl
  · rw [if_neg hm, if_neg (by omega)]
    rfl

/-! ### A quad read of a read window (R25) -/

/-- The levels that the window's plane holds at `n` stream positions from `k` on. -/
def State.levelsAt (s : State) (k n : Nat) : List Level :=
  (List.range' k n).map fun j =>
    s.pixel s.load.plane (streamPixel s.load.rect s.load.orientation j).1
      (streamPixel s.load.rect s.load.orientation j).2

@[simp] theorem length_levelsAt (s : State) (k n : Nat) : (s.levelsAt k n).length = n := by
  simp [State.levelsAt]

theorem levelsAt_eq_map_range (s : State) (k n : Nat) : s.levelsAt k n = (List.range n).map fun i =>
    s.pixel s.load.plane (streamPixel s.load.rect s.load.orientation (k + i)).1
      (streamPixel s.load.rect s.load.orientation (k + i)).2 := by
  rw [State.levelsAt, List.range'_eq_map_range, List.map_map]
  rfl

theorem levelsAt_add (s : State) (k m n : Nat) : s.levelsAt k (m + n) = s.levelsAt k m ++ s.levelsAt (k + m) n := by
  rw [State.levelsAt, ← List.range'_append_1, List.map_append]
  rfl

/-- The record after a read that carries `m` pixels, `got` being those read of the word: a whole word joins the FIFO. -/
def LoadEngine.afterRead (l : LoadEngine) (got : List Level) (m : Nat) : LoadEngine :=
  if m = min 4 l.remaining - l.assembled.length then
    { l with
      fifo := l.fifo ++ [packLevels got], assembled := [], remaining := l.remaining - min 4 l.remaining }
  else { l with assembled := got }

theorem exists_prefetchRead (hleft : s.load.assembled.length < min 4 s.load.remaining) :
    ∃ m, s.load.Carries (s.load.position + s.load.assembled.length)
        (min 4 s.load.remaining - s.load.assembled.length) m ∧
      s.prefetchRead = { s with
        load := s.load.afterRead
          (s.load.assembled ++ s.levelsAt (s.load.position + s.load.assembled.length) m) m } := by
  obtain ⟨m, hcarries, hrun⟩ :=
    exists_run s.load (s.load.position + s.load.assembled.length) (Nat.sub_pos_of_lt hleft)
  have hle := hcarries.le
  have hgot : (s.load.run (s.load.position + s.load.assembled.length)
      (min 4 s.load.remaining - s.load.assembled.length)).map (fun p => s.pixel s.load.plane p.1 p.2) =
      s.levelsAt (s.load.position + s.load.assembled.length) m := by
    rw [hrun, List.map_map]
    rfl
  refine ⟨m, hcarries, ?_⟩
  simp only [State.prefetchRead, wordPixels_eq, hgot, List.length_append, length_levelsAt, LoadEngine.afterRead]
  by_cases hm : m = min 4 s.load.remaining - s.load.assembled.length
  · rw [if_pos hm, if_pos (by omega)]
  · rw [if_neg hm, if_neg (by omega)]

/-! ### A quad write of a fill (R28) -/

theorem exists_fillWrite (hrem : 0 < s.load.remaining) :
    ∃ m, s.load.Carries s.load.position (min 4 s.load.remaining) m ∧
      s.fillWrite =
        { s with
          image := s.image.writePositions s.load.rect s.load.orientation (fun _ => s.load.fillLevel) s.load.position m
          load := { s.load with remaining := s.load.remaining - m } } := by
  obtain ⟨m, hcarries, hrun⟩ := exists_run s.load s.load.position (show 0 < min 4 s.load.remaining by omega)
  refine ⟨m, hcarries, ?_⟩
  simp only [State.fillWrite, wordPixels_eq, hrun, List.map_map, List.length_map, List.length_range', writeTarget_eq]
  rfl

end Access

/-! ### The port's step for the Load Engine -/

/-- Settles O19, by the pixels that the write carries. -/
theorem streamWriteAccess : Obligations.StreamWriteAccess := by
  intro s head rest h hnone hjobs hst hfifo hr hrem hleft place left
  obtain ⟨m, hcarries, hwrite⟩ := exists_streamWrite hfifo hleft
  have hle := hcarries.le
  have heq := (loadAccess_of_word hst hfifo (by omega)).trans hwrite
  obtain ⟨hin, hout⟩ := pixel_of_head_written (congrArg State.image heq) (by simp) hfifo hr hrem (by omega)
  exact ⟨_, m, exec_quadAccess_of_load h hnone hjobs, hcarries.pos, hle, hcarries.same, hcarries.next, hin, hout,
    congrArg State.load heq, by rw [heq]⟩

/-- Settles O20, by the pixels that the read carries. -/
theorem prefetchAccess : Obligations.PrefetchAccess := by
  intro s h hnone hjobs hst hroom hleft place left
  obtain ⟨m, hcarries, heq⟩ := exists_prefetchRead hleft
  refine ⟨m, hcarries.pos, hcarries.le, hcarries.same, hcarries.next, ?_⟩
  rw [exec_quadAccess_of_load h hnone hjobs, loadAccess_of_reading hst hroom (by omega), heq, levelsAt_eq_map_range]
  rfl

end Sys2Proof.Machine

/-! PROOFS. The engine's accesses served one after another (log 7): a word written or read to its end, a FIFO drained, a
rectangle filled. -/

namespace Sys2Proof.Machine

theorem loadAccessesUntil_of_stop {s : State} {stop : LoadEngine → Bool} (h : stop s.load = true) (n : Nat) :
    State.loadAccessesUntil stop n s = s := by
  cases n with
  | zero => rfl
  | succ n => exact if_pos h

theorem loadAccessesUntil_of_needed {s : State} {stop : LoadEngine → Bool} (h : stop s.load = false) (n : Nat) :
    State.loadAccessesUntil stop (n + 1) s = State.loadAccessesUntil stop n s.loadAccess := by
  rw [State.loadAccessesUntil, if_neg (by simp [h])]

/-! ### Words written to TARGET (R23) -/

/-- The head word written to its last pixel, by at most as many accesses as it has pixels left. -/
theorem loadAccessesUntil_word {stop : LoadEngine → Bool} {head : Word} {rest : List Word} {fuel : Nat} {s : State}
    (hst : s.load.state = .writing ∨ s.load.state = .draining) (hfifo : s.load.fifo = head :: rest)
    (hleft : s.load.wordPos < min 4 s.load.remaining) (hstop : ∀ l : LoadEngine, l.fifo = head :: rest → stop l = false)
    (hfuel : min 4 s.load.remaining - s.load.wordPos ≤ fuel) :
    ∃ fuel', fuel ≤ fuel' + (min 4 s.load.remaining - s.load.wordPos) ∧
      State.loadAccessesUntil stop fuel s = State.loadAccessesUntil stop fuel' { s with
        image := s.image.writePositions s.load.rect s.load.orientation s.load.streamLevel
          (s.load.position + s.load.wordPos) (min 4 s.load.remaining - s.load.wordPos)
        load := s.load.afterWord rest } := by
  induction fuel generalizing s with
  | zero => omega
  | succ fuel ih =>
    obtain ⟨m, hcarries, hwrite⟩ := exists_streamWrite hfifo hleft
    have hpos := hcarries.pos
    have hle := hcarries.le
    rw [loadAccessesUntil_of_needed (hstop _ hfifo), loadAccess_of_word hst hfifo (by omega), hwrite,
      LoadEngine.afterWrite]
    by_cases hm : m = min 4 s.load.remaining - s.load.wordPos
    · rw [if_pos hm, hm]
      exact ⟨fuel, by omega, rfl⟩
    · have hlast : min 4 s.load.remaining - s.load.wordPos =
          m + (min 4 s.load.remaining - (s.load.wordPos + m)) := by omega
      rw [if_neg hm, hlast, writePositions_add, Nat.add_assoc s.load.position]
      obtain ⟨fuel', hfuel', heq⟩ := ih (s := { s with
          image := s.image.writePositions s.load.rect s.load.orientation s.load.streamLevel
            (s.load.position + s.load.wordPos) m
          load := { s.load with wordPos := s.load.wordPos + m } })
        hst hfifo (by dsimp only; omega) (by dsimp only; omega)
      dsimp only at hfuel'
      exact ⟨fuel', by omega, heq⟩

/-- Once the head word has left, the next words carry the levels of their positions as before. -/
theorem streamLevel_afterWord {l : LoadEngine} {head : Word} {rest : List Word} (hfifo : l.fifo = head :: rest)
    (hrem : l.remaining ≤ l.rect.w * l.rect.h) (hfull : 4 ≤ l.remaining) {j : Nat} (hj : l.position + 4 ≤ j) :
    (l.afterWord rest).streamLevel j = l.streamLevel j := by
  have hposition : (l.afterWord rest).position = l.position + 4 := by
    simp only [LoadEngine.position, LoadEngine.afterWord]
    omega
  have hdiv : (j - l.position) / 4 = (j - (l.position + 4)) / 4 + 1 := by omega
  have hmod : (j - l.position) % 4 = (j - (l.position + 4)) % 4 := by omega
  rw [LoadEngine.streamLevel, LoadEngine.streamLevel, hposition, hdiv, hmod, hfifo, List.getD_cons_succ]
  rfl

/-- A FIFO written to its last pixel: every nibble that has a stream position is written there. -/
theorem loadAccessesUntil_drain {ws : List Word} {fuel : Nat} {s : State}
    (hst : s.load.state = .writing ∨ s.load.state = .draining) (hfifo : s.load.fifo = ws)
    (hrem : s.load.remaining ≤ s.load.rect.w * s.load.rect.h)
    (hhead : s.load.wordPos = 0 ∨ (ws ≠ [] ∧ s.load.wordPos < min 4 s.load.remaining))
    (hlen : 4 * ws.length < s.load.remaining + 4) (hfuel : 4 * ws.length ≤ fuel) :
    State.loadAccessesUntil (fun l => l.fifo.isEmpty) fuel s = { s with
      image := s.image.writePositions s.load.rect s.load.orientation s.load.streamLevel
        (s.load.position + s.load.wordPos) (min s.load.remaining (4 * ws.length) - s.load.wordPos)
      load := { s.load with
        fifo := [], wordPos := 0, remaining := s.load.remaining - min s.load.remaining (4 * ws.length) } } := by
  induction ws generalizing s fuel with
  | nil =>
    have hwordPos : s.load.wordPos = 0 := hhead.resolve_right (by simp)
    have hsame : { s.load with fifo := [], wordPos := 0, remaining := s.load.remaining } = s.load := by
      rw [← hfifo, ← hwordPos]
    rw [loadAccessesUntil_of_stop (by simp [hfifo])]
    simp only [List.length_nil, Nat.mul_zero, Nat.min_zero, Nat.zero_sub, Nat.sub_zero, hsame]
    rfl
  | cons head rest ih =>
    rw [List.length_cons] at hlen hfuel
    have hleft : s.load.wordPos < min 4 s.load.remaining := by
      rcases hhead with h | h
      · omega
      · exact h.2
    obtain ⟨fuel', hfuel', heq⟩ := loadAccessesUntil_word (stop := fun l => l.fifo.isEmpty) (fuel := fuel) hst hfifo hleft
      (fun l hl => by simp [hl]) (by omega)
    have hposition : (s.load.afterWord rest).position =
        s.load.position + s.load.wordPos + (min 4 s.load.remaining - s.load.wordPos) := by
      simp only [LoadEngine.position, LoadEngine.afterWord]
      omega
    have hlevels : ∀ j, (s.load.afterWord rest).position ≤ j →
        j < (s.load.afterWord rest).position +
          min (s.load.remaining - min 4 s.load.remaining) (4 * rest.length) →
        (s.load.afterWord rest).streamLevel j = s.load.streamLevel j := fun j hlo hhi =>
      streamLevel_afterWord hfifo hrem (by omega) (by omega)
    have hcount : min s.load.remaining (4 * (rest.length + 1)) - s.load.wordPos =
        (min 4 s.load.remaining - s.load.wordPos) +
          min (s.load.remaining - min 4 s.load.remaining) (4 * rest.length) := by omega
    have hremaining : s.load.remaining - min s.load.remaining (4 * (rest.length + 1)) =
        s.load.remaining - min 4 s.load.remaining -
          min (s.load.remaining - min 4 s.load.remaining) (4 * rest.length) := by omega
    rw [heq, ih (s := { s with image := _, load := s.load.afterWord rest }) hst rfl
      (by dsimp only [LoadEngine.afterWord]; omega) (.inl rfl) (by dsimp only [LoadEngine.afterWord]; omega) (by omega),
      List.length_cons, hcount, hremaining, writePositions_add, ← hposition, ← writePositions_congr _ _ _ hlevels]
    rfl

/-! ### A rectangle filled (R28) -/

theorem loadAccessesUntil_fill {fuel : Nat} {s : State} (hst : s.load.state = .filling)
    (hrem : s.load.remaining ≤ s.load.rect.w * s.load.rect.h) (hfuel : s.load.remaining ≤ fuel) :
    State.loadAccessesUntil (fun l => l.remaining == 0) fuel s = { s with
      image := s.image.writePositions s.load.rect s.load.orientation (fun _ => s.load.fillLevel) s.load.position
        s.load.remaining
      load := { s.load with remaining := 0 } } := by
  have hdone (s : State) (h : s.load.remaining = 0) : s = { s with
      image := s.image.writePositions s.load.rect s.load.orientation (fun _ => s.load.fillLevel) s.load.position
        s.load.remaining
      load := { s.load with remaining := 0 } } := by
    have himage : s.image.writePositions s.load.rect s.load.orientation (fun _ => s.load.fillLevel) s.load.position
        s.load.remaining = s.image := by
      rw [h]
      rfl
    have hload : { s.load with remaining := 0 } = s.load := by rw [← h]
    rw [himage, hload]
  induction fuel generalizing s with
  | zero =>
    have hzero : s.load.remaining = 0 := by omega
    rw [loadAccessesUntil_of_stop (by simp [hzero])]
    exact hdone s hzero
  | succ fuel ih =>
    by_cases hzero : s.load.remaining = 0
    · rw [loadAccessesUntil_of_stop (by simp [hzero])]
      exact hdone s hzero
    · obtain ⟨m, hcarries, hwrite⟩ := exists_fillWrite (s := s) (by omega)
      have hpos := hcarries.pos
      have hle := hcarries.le
      have hposition : s.load.rect.w * s.load.rect.h - (s.load.remaining - m) = s.load.position + m := by
        simp only [LoadEngine.position]
        omega
      have hcount : s.load.remaining = m + (s.load.remaining - m) := by omega
      have himage : s.image.writePositions s.load.rect s.load.orientation (fun _ => s.load.fillLevel) s.load.position
          s.load.remaining =
          (s.image.writePositions s.load.rect s.load.orientation (fun _ => s.load.fillLevel) s.load.position
            m).writePositions s.load.rect s.load.orientation (fun _ => s.load.fillLevel)
              (s.load.rect.w * s.load.rect.h - (s.load.remaining - m)) (s.load.remaining - m) := by
        rw [hposition, ← writePositions_add, ← hcount]
      rw [loadAccessesUntil_of_needed (by simp [hzero]), loadAccess_of_filling hst (by omega), hwrite,
        ih (s := { s with image := _, load := { s.load with remaining := s.load.remaining - m } }) hst
          (by dsimp only; omega) (by dsimp only; omega), himage]
      rfl

/-! ### A word prefetched (R25) -/

theorem levelsAt_congr {s t : State} (hi : t.image = s.image) (hf : t.freeIndex = s.freeIndex) (hl : t.load = s.load)
    (k n : Nat) : t.levelsAt k n = s.levelsAt k n := by
  simp only [State.levelsAt, pixel_of_image hi hf, hl]

/-- The word being prefetched read to its last pixel, by at most as many accesses as it has pixels left. -/
theorem loadAccessesUntil_prefetch {fuel : Nat} {s : State} (hst : s.load.state = .reading) (hfifo : s.load.fifo = [])
    (hleft : s.load.assembled.length < min 4 s.load.remaining)
    (hfuel : min 4 s.load.remaining - s.load.assembled.length ≤ fuel) :
    State.loadAccessesUntil (fun l => !l.fifo.isEmpty) fuel s = { s with
      load := { s.load with
        fifo := [packLevels (s.load.assembled ++ s.levelsAt (s.load.position + s.load.assembled.length)
          (min 4 s.load.remaining - s.load.assembled.length))]
        assembled := [], remaining := s.load.remaining - min 4 s.load.remaining } } := by
  induction fuel generalizing s with
  | zero => omega
  | succ fuel ih =>
    obtain ⟨m, hcarries, hread⟩ := exists_prefetchRead hleft
    have hpos := hcarries.pos
    have hle := hcarries.le
    rw [loadAccessesUntil_of_needed (by simp [hfifo]), loadAccess_of_reading hst (by simp [hfifo]) (by omega), hread,
      LoadEngine.afterRead]
    by_cases hm : m = min 4 s.load.remaining - s.load.assembled.length
    · rw [if_pos hm, hm, loadAccessesUntil_of_stop (by simp), hfifo]
      rfl
    · have hlast : min 4 s.load.remaining - s.load.assembled.length =
          m + (min 4 s.load.remaining - (s.load.assembled.length + m)) := by omega
      have hmore : s.load.assembled ++ s.levelsAt (s.load.position + s.load.assembled.length)
          (min 4 s.load.remaining - s.load.assembled.length) =
          s.load.assembled ++ s.levelsAt (s.load.position + s.load.assembled.length) m ++
            s.levelsAt (s.load.position + (s.load.assembled.length + m))
              (min 4 s.load.remaining - (s.load.assembled.length + m)) := by
        rw [hlast, levelsAt_add, List.append_assoc, Nat.add_assoc]
      have hlength : (s.load.assembled ++ s.levelsAt (s.load.position + s.load.assembled.length) m).length =
          s.load.assembled.length + m := by simp
      rw [if_neg hm, ih (s := { s with
          load := { s.load with
            assembled := s.load.assembled ++ s.levelsAt (s.load.position + s.load.assembled.length) m } })
        hst hfifo (by dsimp only; omega) (by dsimp only; omega), hmore]
      dsimp only
      rw [hlength]
      rfl

/-- The number that a list of levels holds at a place, 0 beyond its last. -/
def levelNumber (ls : List Level) (i : Nat) : Nat := (ls[i]?.map BitVec.toNat).getD 0

theorem levelNumber_lt (ls : List Level) (i : Nat) : levelNumber ls i < 16 := by
  unfold levelNumber
  cases ls[i]? with
  | none => simp
  | some l => exact l.isLt

/-- A word packed from at most four levels, as a number. -/
theorem toNat_packLevels {ls : List Level} (hlen : ls.length ≤ 4) :
    (packLevels ls).toNat =
      levelNumber ls 0 + 16 * levelNumber ls 1 + 256 * levelNumber ls 2 + 4096 * levelNumber ls 3 := by
  have h0 := levelNumber_lt ls 0
  have h1 := levelNumber_lt ls 1
  have h2 := levelNumber_lt ls 2
  have h3 := levelNumber_lt ls 3
  rcases ls with _ | ⟨a, _ | ⟨b, _ | ⟨c, _ | ⟨d, _ | ⟨e, rest⟩⟩⟩⟩⟩
  case cons.cons.cons.cons.cons =>
    simp only [List.length_cons] at hlen
    omega
  case nil => rfl
  all_goals
    simp [packLevels, pack, levelNumber] at *
    omega

/-- It holds each level in its nibble, and 0 beyond the last (R20). -/
theorem nibble_packLevels {ls : List Level} (hlen : ls.length ≤ 4) {i : Nat} (hi : i < 4) :
    (packLevels ls).toNat / 16 ^ i % 16 = levelNumber ls i := by
  have h0 := levelNumber_lt ls 0
  have h1 := levelNumber_lt ls 1
  have h2 := levelNumber_lt ls 2
  have h3 := levelNumber_lt ls 3
  rw [toNat_packLevels hlen]
  interval_cases i <;> omega

end Sys2Proof.Machine

/-! PROOFS. The ends that serve the engine's remaining accesses first (log 7): a drain, a fill, a stretched write and a
stretched read. -/

namespace Sys2Proof.Machine

/-! ### The accesses that an end still needs (R6) -/

/-- The state from which an end serves the engine's accesses: after the scan reads that wait, where it needs any. -/
def State.servedBefore (s : State) (stop : LoadEngine → Bool) : State := if stop s.load then s else s.serveScanReads

theorem serveLoad_eq {s : State} (hjobs : s.jobs = []) (stop : LoadEngine → Bool) (n : Nat) :
    s.serveLoad stop n = State.loadAccessesUntil stop n (s.servedBefore stop) := by
  unfold State.servedBefore
  cases h : stop s.load with
  | true => rw [serveLoad_of_stop h, if_pos rfl, loadAccessesUntil_of_stop h]
  | false => rw [serveLoad_of_needed h hjobs, if_neg (by simp)]

@[simp] theorem servedBefore_frame (s : State) (stop : LoadEngine → Bool) :
    (s.servedBefore stop).phase = s.phase ∧ (s.servedBefore stop).freeIndex = s.freeIndex ∧
    (s.servedBefore stop).bus = s.bus ∧ (s.servedBefore stop).events = s.events ∧
    (s.servedBefore stop).image = s.image ∧ (s.servedBefore stop).load = s.load := by
  unfold State.servedBefore
  split <;> simp

theorem settled_servedBefore (s : State) (stop : LoadEngine → Bool) :
    (s.servedBefore stop).settled = s.settled := by
  unfold State.servedBefore
  split
  · rfl
  · exact settled_serveScanReads s

/-- The planes and the window record are no part of what a step settles. -/
theorem runs_servedBefore {s : State} (h : s.runs) (stop : LoadEngine → Bool) (m : ImageMemory) (l : LoadEngine) :
    State.runs { s.servedBefore stop with image := m, load := l } :=
  ⟨(servedBefore_frame s stop).1.trans h.1,
    (settled_congr rfl rfl rfl rfl rfl).trans ((settled_servedBefore s stop).trans h.2)⟩

/-- Nothing but the planes and the record has changed since the scan reads were served. -/
theorem servedBefore_restored (s : State) (stop : LoadEngine → Bool) :
    { s.servedBefore stop with image := s.image, load := s.load } = s.servedBefore stop := by
  obtain ⟨-, -, -, -, himage, hload⟩ := servedBefore_frame s stop
  rw [← himage, ← hload]

/-- Nor after the window has ended with LOAD_END, but for the event flag. -/
theorem servedBefore_restored_events (s : State) (stop : LoadEngine → Bool) :
    { s.servedBefore stop with image := s.image, load := s.load, events := s.events } = s.servedBefore stop := by
  obtain ⟨-, -, -, hevents, himage, hload⟩ := servedBefore_frame s stop
  rw [← himage, ← hload, ← hevents]

/-! ### The end of a fill (R28, R29) -/

theorem plane_writeLevels (m : ImageMemory) (cs : List ((Nat × Nat) × Level)) {p : Plane} (hp : p ≠ .target) :
    (m.writeLevels cs).plane p = m.plane p := by
  induction cs generalizing m with
  | nil => rfl
  | cons c t ih => rw [ImageMemory.writeLevels, ih, ImageMemory.plane_setPlane, if_neg hp]

theorem pixel_writePositions_of_plane {s t : State} {r : Rect} {o : Fin 8} {f : Nat → Level} {k n : Nat}
    (ht : t.image = s.image.writePositions r o f k n) (hfree : t.freeIndex = s.freeIndex) {p : Plane} (hp : p ≠ .target)
    (x y : Nat) : t.pixel p x y = s.pixel p x y := by
  rw [State.pixel, ht, ImageMemory.writePositions, plane_writeLevels _ _ hp, hfree]
  rfl

section Fill

variable {s : State}

/-- The state in which a fill has reached every pixel of its rectangle. -/
def State.filledState (s : State) : State :=
  { s.servedBefore (fun l => l.remaining == 0) with
    image := s.image.writePositions s.load.rect s.load.orientation (fun _ => s.load.fillLevel) s.load.position
      s.load.remaining
    load := { s.load with remaining := 0 } }

theorem serveLoad_fill (hst : s.load.state = .filling) (hjobs : s.jobs = [])
    (hrem : s.load.remaining ≤ s.load.rect.w * s.load.rect.h) :
    s.serveLoad (fun l => l.remaining == 0) s.load.remaining = s.filledState := by
  obtain ⟨-, -, -, -, himage, hload⟩ := servedBefore_frame s fun l => l.remaining == 0
  have hserved := loadAccessesUntil_fill (s := s.servedBefore fun l => l.remaining == 0) (fuel := s.load.remaining)
    (by rwa [hload]) (by rwa [hload]) (by rw [hload])
  rw [hload, himage] at hserved
  rw [serveLoad_eq hjobs, hserved]
  rfl

/-- The end of a fill is that of the fill with nothing left to write. -/
theorem endFill_eq (hst : s.load.state = .filling) (hjobs : s.jobs = [])
    (hrem : s.load.remaining ≤ s.load.rect.w * s.load.rect.h) : s.endFill = s.filledState.endFill := by
  rw [endFill_of_done (s := s.filledState) hst rfl]
  unfold State.endFill
  rw [if_pos hst, serveLoad_fill hst hjobs hrem]
  exact if_pos rfl

theorem endFill_of_jobs (hjobs : s.jobs ≠ []) (hrem : s.load.remaining ≠ 0) : s.endFill = s := by
  unfold State.endFill
  split
  · rw [serveLoad_of_jobs hjobs]
    exact if_neg hrem
  · rfl

theorem streamPosition_zero (r : Rect) (x y : Nat) : r.streamPosition 0 x y = (y - r.y) * r.w + (x - r.x) := by
  have hplace : r.placeInLine 0 x y = x - r.x := rfl
  have hline : r.lineOf 0 x y = y - r.y := rfl
  rw [Rect.streamPosition, hplace, hline, Nat.add_comm, Nat.mul_comm]
  rfl

/-- The pixels of the rectangle from the fill's position on are those that it writes. -/
theorem pixel_filled {t : State} (horient : s.load.orientation = 0) (hr : s.load.rect.legal 1024 768 = true)
    (hrem : s.load.remaining ≤ s.load.rect.w * s.load.rect.h)
    (ht : t.image = s.filledState.image) (hfree : t.freeIndex = s.freeIndex) {x : Nat} (hx : x < 1024) (y : Nat) :
    t.pixel .target x y =
      if s.load.rect.contains x y = true ∧
          s.load.position ≤ (y - s.load.rect.y) * s.load.rect.w + (x - s.load.rect.x) then s.load.fillLevel
      else s.pixel .target x y := by
  have hend : s.load.position + s.load.remaining = s.load.rect.w * s.load.rect.h := Nat.sub_add_cancel hrem
  have himage : t.image = s.image.writePositions s.load.rect 0 (fun _ => s.load.fillLevel) s.load.position
      s.load.remaining := by
    rw [ht, State.filledState, horient]
  rw [← streamPosition_zero]
  split
  · rename_i hin
    obtain ⟨hc, hlo⟩ := hin
    have hlt := streamPosition_lt (o := 0) hc
    have hpixel := (streamPixel_eq_iff hlt hc).mpr rfl
    have hlevel := pixel_writePositions_of_mem himage hfree hr (by omega) hlo (by omega)
    rwa [hpixel] at hlevel
  · rename_i hout
    refine pixel_writePositions_of_not_mem himage hfree hr (by omega) hx (.inr fun i hi heq => hout ?_)
    have hc : s.load.rect.contains x y = true := by
      have hc := contains_streamPixel (r := s.load.rect) (o := 0) (k := s.load.position + i) (by omega)
      rwa [← heq] at hc
    exact ⟨hc, (streamPixel_eq_iff (by omega) hc).mp heq.symm ▸ Nat.le_add_right _ _⟩

theorem exec_fillEnd_eq (h : s.runs) (hst : s.load.state = .filling) (hjobs : s.jobs = [])
    (hrem : s.load.remaining ≤ s.load.rect.w * s.load.rect.h) : exec .fillEnd s = exec .fillEnd s.filledState := by
  have hruns : s.filledState.runs := runs_servedBefore h _ _ _
  rw [exec_fillEnd h.1, exec_fillEnd hruns.1, endFill_eq hst hjobs hrem]

end Fill

/-- Settles O21: a quad write of the fill, then its end from the state that has reached every pixel. -/
theorem fillReachesEveryPixel : Obligations.FillReachesEveryPixel := by
  intro s h hst
  refine ⟨fun hjobs hrem => ?_, fun hjobs hr horient hrem => ?_⟩
  · rw [exec_fillEnd h.1, endFill_of_jobs hjobs hrem, settle_of_settled h.2]
  intro served filled
  have hserved : served = s.servedBefore fun l => l.remaining == 0 := by
    simp [served, State.servedBefore]
  have hfilled : ∀ t : State, t.image = s.filledState.image → t.freeIndex = s.freeIndex → filled t :=
    fun t ht hfree => ⟨fun x y hx => pixel_filled horient hr hrem ht hfree hx y,
      fun x y => ⟨pixel_writePositions_of_plane ht hfree (by simp) x y,
        pixel_writePositions_of_plane ht hfree (by simp) x y⟩⟩
  obtain ⟨-, hfree, -, hevents, -⟩ := servedBefore_frame s fun l => l.remaining == 0
  have hruns : s.filledState.runs := runs_servedBefore h _ _ _
  refine ⟨?_, fun hauto => ?_, ⟨s.filledState, exec_fillEnd_eq h hst hjobs hrem, hruns, hfilled _ rfl hfree, rfl, ?_⟩⟩
  · intro place left hnone hpos
    have hend : s.load.position + s.load.remaining = s.load.rect.w * s.load.rect.h := Nat.sub_add_cancel hrem
    obtain ⟨m, ⟨hfirst, hle, hsame, hnext⟩, hwrite⟩ := exists_fillWrite hpos
    rw [horient] at hsame hnext hwrite
    have heq := (loadAccess_of_filling hst hpos).trans hwrite
    have himage := congrArg State.image heq
    have hfree : s.loadAccess.freeIndex = s.freeIndex := by simp
    refine ⟨_, m, exec_quadAccess_of_load h hnone hjobs, hfirst, hle, hsame, hnext, fun i hi => ?_,
      fun p x y hx hout => ?_, congrArg State.load heq, by rw [heq]⟩
    · exact pixel_writePositions_of_mem himage hfree hr (by omega) (by omega) (by omega)
    · exact pixel_writePositions_of_not_mem himage hfree hr (by omega) hx hout
  · refine ⟨s.filledState.endWindow .complete, ?_, hfilled _ rfl hfree, rfl,
      congrArg (· ||| 1#10 <<< 2) hevents, ?_⟩
    · rw [exec_fillEnd_eq h hst hjobs hrem, exec_fillEnd_complete hruns hst rfl hauto]
    · rw [hserved]
      exact servedBefore_restored_events s _
  · rw [hserved]
    exact servedBefore_restored s _

/-! ### The end of a drain (R23, R29, R32) -/

section Drain

variable {s : State}

/-- The state in which a drain has written every word of the FIFO. -/
def State.drainedState (s : State) : State :=
  { s.servedBefore (fun l => l.fifo.isEmpty) with
    image := s.image.writePositions s.load.rect s.load.orientation s.load.streamLevel
      (s.load.position + s.load.wordPos) (min s.load.remaining (4 * s.load.fifo.length) - s.load.wordPos)
    load := { s.load with
      fifo := [], wordPos := 0, remaining := s.load.remaining - min s.load.remaining (4 * s.load.fifo.length) } }

/-- What a drain's record holds: its next pixel to write lies in the head word, if a word is partly written, and only
the last word can carry nibbles beyond the last stream position. -/
structure LoadEngine.Drains (l : LoadEngine) : Prop where
  remaining_le : l.remaining ≤ l.rect.w * l.rect.h
  head : l.wordPos = 0 ∨ (l.fifo ≠ [] ∧ l.wordPos < min 4 l.remaining)
  words : 4 * l.fifo.length < l.remaining + 4

theorem serveLoad_drain (hst : s.load.state = .draining) (hjobs : s.jobs = []) (hl : s.load.Drains) :
    s.serveLoad (fun l => l.fifo.isEmpty) (4 * s.load.fifo.length) = s.drainedState := by
  obtain ⟨hrem, hhead, hlen⟩ := hl
  obtain ⟨-, -, -, -, himage, hload⟩ := servedBefore_frame s fun l => l.fifo.isEmpty
  have hserved := loadAccessesUntil_drain (s := s.servedBefore fun l => l.fifo.isEmpty)
    (fuel := 4 * s.load.fifo.length) (.inr (by rwa [hload])) rfl (by rwa [hload]) (by rwa [hload]) (by rwa [hload])
    (by rw [hload])
  rw [hload, himage] at hserved
  rw [serveLoad_eq hjobs, hserved]
  rfl

/-- The end of a drain is that of the drain with an empty FIFO. -/
theorem endDrain_eq (hst : s.load.state = .draining) (hjobs : s.jobs = []) (hl : s.load.Drains) :
    s.endDrain = s.drainedState.endDrain := by
  rw [endDrain_of_empty (s := s.drainedState) hst rfl]
  unfold State.endDrain
  rw [if_pos hst, serveLoad_drain hst hjobs hl]
  exact if_pos rfl

theorem endDrain_of_jobs (hjobs : s.jobs ≠ []) (hfifo : s.load.fifo ≠ []) : s.endDrain = s := by
  unfold State.endDrain
  split
  · rw [serveLoad_of_jobs hjobs]
    exact if_neg (by simp [hfifo])
  · rfl

theorem exec_drainEnd_eq (h : s.runs) (hst : s.load.state = .draining) (hjobs : s.jobs = []) (hl : s.load.Drains) :
    exec .drainEnd s = exec .drainEnd s.drainedState := by
  have hruns : s.drainedState.runs := runs_servedBefore h _ _ _
  rw [exec_drainEnd h.1, exec_drainEnd hruns.1, endDrain_eq hst hjobs hl]

/-- Without a presentation the end of a drain is LOAD_END, SHORT where the close was requested (R29, R32). -/
theorem exec_drainEnd_endWindow (h : s.runs) (hst : s.load.state = .draining) (hjobs : s.jobs = []) (hl : s.load.Drains)
    (hpresent : s.load.closeRequested = true ∨ s.load.autoSubmit = false) :
    exec .drainEnd s =
      .next (s.drainedState.endWindow (if s.load.closeRequested = true then .short else .complete)) := by
  have hruns : s.drainedState.runs := runs_servedBefore h _ _ _
  rw [exec_drainEnd_eq h hst hjobs hl]
  cases hclose : s.load.closeRequested with
  | true => exact exec_drainEnd_short hruns hst rfl hclose
  | false => exact exec_drainEnd_complete hruns hst rfl hclose (hpresent.resolve_left (by simp [hclose]))

end Drain

/-- Settles O22: the end of a drain from the state that has written every word. -/
theorem drainWritesEveryWord : Obligations.DrainWritesEveryWord := by
  intro s h hst
  refine ⟨fun hjobs hfifo => ?_, fun hjobs hr hrem hhead hlen => ?_⟩
  · rw [exec_drainEnd h.1, endDrain_of_jobs hjobs hfifo, settle_of_settled h.2]
  intro count place served written
  have hl : s.load.Drains := ⟨hrem, hhead, hlen⟩
  have hserved : served = s.servedBefore fun l => l.fifo.isEmpty := by
    simp [served, State.servedBefore]
  have hend : s.load.position + s.load.remaining = s.load.rect.w * s.load.rect.h := Nat.sub_add_cancel hrem
  have hcount : count = min s.load.remaining (4 * s.load.fifo.length) := rfl
  have hwordPos : s.load.wordPos ≤ s.load.remaining := by omega
  have hwritten : ∀ t : State, t.image = s.drainedState.image → t.freeIndex = s.freeIndex → written t := by
    refine fun t ht hfree => ⟨fun k w hlo hhi hw => ?_, fun p x y hx hout => ?_⟩
    · rw [pixel_writePositions_of_mem ht hfree hr (by omega) (by omega) (by omega), toNat_streamLevel hw]
    · refine pixel_writePositions_of_not_mem ht hfree hr (by omega) hx (hout.imp_right fun hout i hi => ?_)
      rw [Nat.add_assoc]
      exact hout _ (by omega) (by omega)
  obtain ⟨-, hfree, -, hevents, -⟩ := servedBefore_frame s fun l => l.fifo.isEmpty
  refine ⟨fun hpresent => ?_, ⟨s.drainedState, exec_drainEnd_eq h hst hjobs hl, runs_servedBefore h _ _ _,
    hwritten _ rfl hfree, rfl, ?_⟩⟩
  · refine ⟨_, exec_drainEnd_endWindow h hst hjobs hl hpresent, hwritten _ rfl hfree, rfl,
      congrArg (· ||| 1#10 <<< 2) hevents, ?_⟩
    rw [hserved]
    exact servedBefore_restored_events s _
  · rw [hserved]
    exact servedBefore_restored s _

end Sys2Proof.Machine

/-! PROOFS. The end of a stretched write and of a stretched read (R22, R26): the word at the head written, or the next
word read, and then the access as one that was never stretched. -/

namespace Sys2Proof.Machine

theorem kind_serveLoad (s : State) (stop : LoadEngine → Bool) (n : Nat) :
    (s.serveLoad stop n).scan.map Scan.kind = s.scan.map Scan.kind := by
  unfold State.serveLoad
  split
  · rfl
  · split
    · rw [(show (State.loadAccessesUntil stop n s.serveScanReads).scan = s.serveScanReads.scan by simp),
        kind_serveScanReads]
    · rfl

theorem kind_endStretchedWrite (s : State) : s.endStretchedWrite.scan.map Scan.kind = s.scan.map Scan.kind := by
  unfold State.endStretchedWrite
  split
  · dsimp only
    split
    · exact kind_serveLoad s _ _
    · rfl
  · rfl

theorem kind_endStretchedRead (s : State) : s.endStretchedRead.scan.map Scan.kind = s.scan.map Scan.kind := by
  unfold State.endStretchedRead
  split
  · dsimp only
    split
    · rw [← kind_serveLoad s (fun l => !l.fifo.isEmpty) 4]
      simp
    · rfl
  · rfl

/-- The scan reads served before an end change nothing that a stretched write's end sets. -/
theorem serveScanReads_restored_image (s : State) :
    { s.serveScanReads with bus := s.bus, load := s.load, image := s.image } = s.serveScanReads := by
  have hbus : s.serveScanReads.bus = s.bus := by simp
  have hload : s.serveScanReads.load = s.load := by simp
  have himage : s.serveScanReads.image = s.image := by simp
  rw [← hbus, ← hload, ← himage]

/-- Nor anything that a stretched read's end sets. -/
theorem serveScanReads_restored_events (s : State) :
    { s.serveScanReads with bus := s.bus, load := s.load, events := s.events } = s.serveScanReads := by
  have hbus : s.serveScanReads.bus = s.bus := by simp
  have hload : s.serveScanReads.load = s.load := by simp
  have hevents : s.serveScanReads.events = s.events := by simp
  rw [← hbus, ← hload, ← hevents]

theorem bus_deliverWord (s : State) (head : Word) (rest : List Word) :
    (s.deliverWord head rest).bus = { s.bus with busData := head } := by
  unfold State.deliverWord
  dsimp only
  split <;> rfl

/-- A delivery changes the bus, the record and the event flags alone. -/
theorem deliverWord_restored (s : State) (head : Word) (rest : List Word) (b : BusInterface) (l : LoadEngine)
    (e : BitVec 10) :
    { s.deliverWord head rest with bus := b, load := l, events := e } = { s with bus := b, load := l, events := e } := by
  unfold State.deliverWord
  dsimp only
  split <;> rfl

section Stretched

variable {s : State}

theorem exec_stretchedWriteComplete (h : s.runs) : exec .stretchedWriteComplete s = .next s.endStretchedWrite :=
  exec_event_of_keeps h rfl rfl (by simp [State.keeps, kind_endStretchedWrite])

theorem exec_stretchedReadComplete (h : s.runs) : exec .stretchedReadComplete s = .next s.endStretchedRead :=
  exec_event_of_keeps h rfl rfl (by simp [State.keeps, kind_endStretchedRead])

/-! ### Stretched writes (R22) -/

/-- Once the FIFO has room, the stretched word is received as any other. -/
theorem endStretchedWrite_of_room {u : State} {w : Word} (hbus : s.bus.stretched = some (.write w))
    (hserve : s.serveLoad (fun l => decide (l.fifo.length < Config.fifoPlaces)) 4 = u)
    (hroom : u.load.fifo.length < 32) (hst : u.load.state = .writing) :
    s.endStretchedWrite = { u with
      bus := { u.bus with stretched := none }
      load := { u.load with
        fifo := u.load.fifo ++ [w], streamCount := u.load.streamCount - 1,
        state := if u.load.streamCount ≤ 1 then .draining else .writing } } := by
  unfold State.endStretchedWrite
  simp only [hbus, hserve]
  exact (if_pos hroom).trans
    (receiveWord_of_writing (s := { u with bus := { u.bus with stretched := none } }) hst w)

theorem endStretchedWrite_of_full (hserve : s.serveLoad (fun l => decide (l.fifo.length < Config.fifoPlaces)) 4 = s)
    (hfull : 32 ≤ s.load.fifo.length) : s.endStretchedWrite = s := by
  unfold State.endStretchedWrite
  split
  · simp only [hserve]
    exact if_neg (Nat.not_lt.mpr hfull)
  · rfl

/-- A full FIFO has room once the head word's last pixel has been written. -/
theorem serveLoad_room {head : Word} {rest : List Word} (hst : s.load.state = .writing)
    (hfifo : s.load.fifo = head :: rest) (hlen : s.load.fifo.length = 32) (hjobs : s.jobs = [])
    (hleft : s.load.wordPos < min 4 s.load.remaining) :
    s.serveLoad (fun l => decide (l.fifo.length < Config.fifoPlaces)) 4 = { s.serveScanReads with
      image := s.image.writePositions s.load.rect s.load.orientation s.load.streamLevel
        (s.load.position + s.load.wordPos) (min 4 s.load.remaining - s.load.wordPos)
      load := s.load.afterWord rest } := by
  have hload : s.serveScanReads.load = s.load := by simp
  have himage : s.serveScanReads.image = s.image := by simp
  have hfull : ∀ l : LoadEngine, l.fifo = head :: rest → decide (l.fifo.length < Config.fifoPlaces) = false :=
    fun l hl => by simp [hl, ← hfifo, hlen, Config.fifoPlaces]
  have hrest : rest.length < Config.fifoPlaces := by
    rw [hfifo, List.length_cons] at hlen
    rw [Config.fifoPlaces]
    omega
  obtain ⟨fuel, -, hserved⟩ := loadAccessesUntil_word (s := s.serveScanReads) (fuel := 4) (by rw [hload]; exact .inl hst)
    (by rwa [hload]) (by rwa [hload]) hfull (by omega)
  rw [hload, himage] at hserved
  rw [serveLoad_of_needed (hfull _ hfifo) hjobs, hserved, loadAccessesUntil_of_stop (decide_eq_true hrest)]

/-- The stretched write of a full FIFO completes with the head word's last pixel. -/
theorem endStretchedWrite_of_head {w head : Word} {rest : List Word} (hbus : s.bus.stretched = some (.write w))
    (hst : s.load.state = .writing) (hfifo : s.load.fifo = head :: rest) (hlen : s.load.fifo.length = 32)
    (hjobs : s.jobs = []) (hleft : s.load.wordPos < min 4 s.load.remaining) :
    s.endStretchedWrite = { s.serveScanReads with
      bus := { s.bus with stretched := none }
      image := s.image.writePositions s.load.rect s.load.orientation s.load.streamLevel
        (s.load.position + s.load.wordPos) (min 4 s.load.remaining - s.load.wordPos)
      load := { s.load with
        fifo := rest ++ [w], wordPos := 0, remaining := s.load.remaining - min 4 s.load.remaining,
        streamCount := s.load.streamCount - 1,
        state := if s.load.streamCount ≤ 1 then .draining else .writing } } := by
  have hbusServed : s.serveScanReads.bus = s.bus := by simp
  have hrest : rest.length < 32 := by
    rw [hfifo, List.length_cons] at hlen
    omega
  rw [endStretchedWrite_of_room hbus (serveLoad_room hst hfifo hlen hjobs hleft) hrest hst]
  dsimp only
  rw [hbusServed]
  rfl

/-! ### Stretched reads (R26) -/

/-- Once the FIFO holds a word, the stretched read delivers it as any other. -/
theorem endStretchedRead_of_cons {u : State} {head : Word} {rest : List Word} (hbus : s.bus.stretched = some .read)
    (hserve : s.serveLoad (fun l => !l.fifo.isEmpty) 4 = u) (hfifo : u.load.fifo = head :: rest) :
    s.endStretchedRead = State.deliverWord { u with bus := { u.bus with stretched := none } } head rest := by
  unfold State.endStretchedRead
  simp only [hbus, hserve, hfifo]

theorem endStretchedRead_of_empty (hserve : s.serveLoad (fun l => !l.fifo.isEmpty) 4 = s) (hfifo : s.load.fifo = []) :
    s.endStretchedRead = s := by
  unfold State.endStretchedRead
  split
  · simp only [hserve, hfifo]
  · rfl

/-- The word that the prefetch is assembling, read to its last pixel. -/
def State.nextWord (s : State) : Word :=
  packLevels (s.load.assembled ++ s.levelsAt (s.load.position + s.load.assembled.length)
    (min 4 s.load.remaining - s.load.assembled.length))

/-- An empty FIFO holds a word once the prefetch has read its last pixel. -/
theorem serveLoad_word (hst : s.load.state = .reading) (hfifo : s.load.fifo = []) (hjobs : s.jobs = [])
    (hleft : s.load.assembled.length < min 4 s.load.remaining) :
    s.serveLoad (fun l => !l.fifo.isEmpty) 4 = { s.serveScanReads with
      load := { s.load with
        fifo := [s.nextWord], assembled := [], remaining := s.load.remaining - min 4 s.load.remaining } } := by
  have hload : s.serveScanReads.load = s.load := by simp
  have hlevels := levelsAt_congr (s := s) (t := s.serveScanReads) (by simp) (by simp) hload
  have hserved := loadAccessesUntil_prefetch (s := s.serveScanReads) (fuel := 4) (by rwa [hload]) (by rwa [hload])
    (by rwa [hload]) (by omega)
  rw [hload, hlevels] at hserved
  rw [serveLoad_of_needed (by simp [hfifo]) hjobs, hserved]
  rfl

/-- The nibbles of the word delivered: the levels read of it before, those that the plane holds, and 0 beyond the last
stream position (R20, R25). -/
theorem nibble_nextWord (hleft : s.load.assembled.length < min 4 s.load.remaining) {i : Nat} (hi : i < 4) :
    s.nextWord.toNat / 16 ^ i % 16 =
      match s.load.assembled[i]? with
      | some l => l.toNat
      | none =>
        if i < s.load.remaining then
          (s.pixel s.load.plane (streamPixel s.load.rect s.load.orientation (s.load.position + i)).1
            (streamPixel s.load.rect s.load.orientation (s.load.position + i)).2).toNat
        else 0 := by
  rw [State.nextWord, nibble_packLevels (by simp; omega) hi, levelNumber]
  rcases Nat.lt_or_ge i s.load.assembled.length with hread | hunread
  · rw [List.getElem?_append_left hread, List.getElem?_eq_getElem hread]
    rfl
  · have hplace : s.load.position + s.load.assembled.length + (i - s.load.assembled.length) = s.load.position + i := by
      omega
    rw [List.getElem?_append_right hunread, List.getElem?_eq_none hunread, levelsAt_eq_map_range, List.getElem?_map]
    dsimp only
    split
    · rw [List.getElem?_range (by omega), Option.map_some, hplace]
      rfl
    · rw [List.getElem?_eq_none (by simp; omega)]
      rfl

end Stretched

/-- Settles O18, by what the FIFO holds and whether a memory job runs. -/
theorem stretchedAccessesComplete : Obligations.StretchedAccessesComplete := by
  refine ⟨fun s w h hbus => ⟨fun head rest hst hfifo hlen hjobs hleft => ?_, fun hroom hst => ?_, fun hfull hjobs => ?_⟩,
    fun s h hbus hst => ?_⟩
  · intro place left
    have heq := endStretchedWrite_of_head hbus hst hfifo hlen hjobs hleft
    refine ⟨_, exec_stretchedWriteComplete h, congrArg State.bus heq, by rw [heq]; rfl, congrArg State.load heq,
      fun hr hrem => ?_, ?_⟩
    · exact pixel_of_head_written (congrArg State.image heq) (by simp) hfifo hr hrem (by omega)
    · rw [heq]
      exact serveScanReads_restored_image s
  · rw [exec_stretchedWriteComplete h, endStretchedWrite_of_room hbus
      (serveLoad_of_stop (decide_eq_true hroom) 4) hroom hst]
  · rw [exec_stretchedWriteComplete h, endStretchedWrite_of_full (serveLoad_of_jobs hjobs _ 4) hfull]
  intro closed
  refine ⟨fun head rest hfifo => ?_, fun hfifo hjobs => ?_, fun hfifo hjobs hleft => ?_⟩
  · have heq := endStretchedRead_of_cons hbus (serveLoad_of_stop (by simp [hfifo]) 4) hfifo
    rw [exec_stretchedReadComplete h, heq]
    refine ⟨fun hmore => congrArg _ (deliverWord_of_more ?_ head rest),
      fun hlast => congrArg _ (deliverWord_of_last ?_ head rest)⟩
    · exact hmore
    · exact hlast
  · rw [exec_stretchedReadComplete h, endStretchedRead_of_empty (serveLoad_of_jobs hjobs _ 4) hfifo]
  · have heq := endStretchedRead_of_cons hbus (serveLoad_word hst hfifo hjobs hleft) rfl
    have hbusServed : s.serveScanReads.bus = s.bus := by simp
    have hevents : s.serveScanReads.events = s.events := by simp
    have hbusEnd : s.endStretchedRead.bus = { s.bus with stretched := none, busData := s.nextWord } := by
      rw [heq, bus_deliverWord]
      dsimp only
      rw [hbusServed]
    refine ⟨_, s.nextWord, exec_stretchedReadComplete h, hbusEnd, by rw [State.nWait, hbusEnd]; rfl,
      fun i hi => nibble_nextWord hleft hi, fun hmore => ?_, fun hlast => ?_, ?_⟩
    · rw [heq, deliverWord_of_more]
      · exact ⟨hevents, congrArg (fun f => { s.load with
          fifo := f, assembled := [], remaining := s.load.remaining - min 4 s.load.remaining,
          streamCount := s.load.streamCount - 1 }) hfifo.symm⟩
      · exact hmore
    · rw [heq, deliverWord_of_last]
      · exact ⟨rfl, congrArg (· ||| 1#10 <<< 2) hevents⟩
      · exact hlast
    · rw [heq, deliverWord_restored]
      exact serveScanReads_restored_events s

end Sys2Proof.Machine

/-! PROOFS. The modes that live requests refer to (R44), and the memory job list on its own (R92, R94): each operation
that touches the slots, the jobs, the queue or the descriptors keeps `State.usesSound`. -/

namespace Sys2Proof.Machine

/-! ### The references of live requests -/

/-- A mode is in use where an entry names it or a slot that is not FREE runs in it (R44). -/
theorem inUse_ne_zero_iff (s : State) (m : Fin 8) :
    s.inUse m ≠ 0 ↔ m ∈ s.queue.map Entry.mode ∨ ∃ n, (s.slot n).state ≠ .free ∧ (s.slot n).mode = m := by
  rw [← Nat.pos_iff_ne_zero, State.inUse, Nat.add_pos_iff_pos_or_pos, List.countP_pos_iff, List.countP_pos_iff]
  simp [mem_slotNumbers]

/-- What brings no reference to a mode, and changes no descriptor of a mode in use, keeps the modes in use READY. -/
theorem usedModesReady_mono {s t : State} (h : s.usedModesReady) (hm : ∀ m, s.inUse m ≠ 0 → t.mode m = s.mode m)
    (hq : t.queue.map Entry.mode ⊆ s.queue.map Entry.mode)
    (hs : ∀ n, (t.slot n).state ≠ .free → (s.slot n).state ≠ .free ∧ (t.slot n).mode = (s.slot n).mode) :
    t.usedModesReady := by
  intro m hused
  have hused' : s.inUse m ≠ 0 := by
    rw [inUse_ne_zero_iff] at hused ⊢
    rcases hused with hentry | ⟨n, hn, rfl⟩
    · exact .inl (hq hentry)
    · exact .inr ⟨n, (hs n hn).1, (hs n hn).2.symm⟩
  rw [hm m hused']
  exact h m hused'

theorem usedModesReady_of_slots {s t : State} (h : s.usedModesReady) (hm : ∀ m, s.inUse m ≠ 0 → t.mode m = s.mode m)
    (hq : t.queue.map Entry.mode ⊆ s.queue.map Entry.mode) (hs : t.slots = s.slots) : t.usedModesReady :=
  usedModesReady_mono h hm hq fun n hn => by simpa [slot_of_slots hs] using hn

/-- With no live request, no mode is in use. -/
theorem usedModesReady_of_none {s : State} (hq : s.queue = []) (hs : ∀ n, s.slot n = Slot.cleared) :
    s.usedModesReady := by
  intro m hused
  rw [inUse_ne_zero_iff] at hused
  simp [hq, hs, Slot.cleared] at hused

/-! ### The job list on its own -/

/-- The part with an empty tile map, with which every owner agrees. -/
def State.untiled (s : State) : State := { s with tiles := [] }

theorem regionsSound_untiled_iff (s : State) : s.untiled.regionsSound ↔ s.jobsSound :=
  ⟨fun h => h.1, fun h => ⟨h, fun k t n hk => by simp [State.untiled] at hk⟩⟩

theorem jobsSound_congr {s t : State} (hs : t.slots = s.slots) (hj : t.jobKeys = s.jobKeys) (h : s.jobsSound) :
    t.jobsSound := by
  simpa only [jobsSound_iff, slot_of_slots hs, hj] using h

theorem jobKeys_of_jobs {s t : State} (h : t.jobs = s.jobs) : t.jobKeys = s.jobKeys := by
  simp [State.jobKeys, h]

/-! ### Posts (R71, R106, R145, R146) -/

/-- A slot's post that is taken clears the slot (R106). -/
theorem slots_takePost (s : State) (p : Poster) :
    (s.takePost p).slots =
      match p with
      | .slot n => if (s.slot n).outcome.isSome = true then s.slots.set n Slot.cleared else s.slots
      | .entry _ => s.slots := by
  cases p with
  | entry t => simp [State.takePost]
  | slot n =>
    simp only [State.takePost, State.takeSlotPost]
    split <;> simp [State.setSlot, State.releaseTiles, *]

theorem slot_takePost (s : State) (p : Poster) (m : Fin 16) :
    (s.takePost p).slot m =
      if p = .slot m ∧ (s.slot m).outcome.isSome = true then Slot.cleared else s.slot m := by
  have hslots := slots_takePost s p
  cases p with
  | entry t => simpa using slot_of_slots hslots m
  | slot n =>
    by_cases ho : (s.slot n).outcome.isSome = true
    · rw [slot_of_slots (s := s.setSlot n Slot.cleared) (by simp [hslots, ho, State.setSlot]) m, slot_setSlot]
      by_cases hm : m = n
      · simp [hm, ho]
      · simp [hm, Ne.symm hm]
    · rw [slot_of_slots (s := s) (by simp [hslots, ho]) m, if_neg]
      rintro ⟨hm, hm'⟩
      cases hm
      exact ho hm'

theorem slots_takePost_congr {s t : State} (h : t.slots = s.slots) (p : Poster) :
    (t.takePost p).slots = (s.takePost p).slots := by
  simp only [slots_takePost, slot_of_slots h, h]

theorem slots_offer_congr {s t : State} (h : t.slots = s.slots) (hc : t.completions = s.completions) (p : Poster) :
    (t.offer p).slots = (s.offer p).slots := by
  simp only [State.offer, hc]
  split
  · exact slots_takePost_congr h p
  · exact h

theorem slots_endSlot_congr {s t : State} (h : t.slots = s.slots) (hc : t.completions = s.completions) (n : Fin 16)
    (o : SlotOutcome) : (t.endSlot n o).slots = (s.endSlot n o).slots := by
  have hset : (t.setSlot n { t.slot n with state := .ending, outcome := some o }).slots
      = (s.setSlot n { s.slot n with state := .ending, outcome := some o }).slots := by
    simp only [State.setSlot, slot_of_slots h, h]
  exact slots_offer_congr hset hc _

theorem slots_cutSlot_untiled (s : State) (n : Fin 16) (o : SlotOutcome) :
    (s.cutSlot n o).slots = (s.untiled.cutSlot n o).slots := by
  have hslot : s.untiled.slot n = s.slot n := rfl
  unfold State.cutSlot
  rw [hslot]
  split
  case h_1 | h_2 => refine slots_endSlot_congr ?_ ?_ n o <;> rfl
  all_goals rfl

theorem jobs_cutSlot_untiled (s : State) (n : Fin 16) (o : SlotOutcome) :
    (s.cutSlot n o).jobs = (s.untiled.cutSlot n o).jobs := by
  have hslot : s.untiled.slot n = s.slot n := rfl
  unfold State.cutSlot
  rw [hslot]
  split
  case h_1 | h_2 => simp only [endSlot_frame]; rfl
  all_goals rfl

theorem jobsSound_takePost {s : State} (h : s.jobsSound) (p : Poster) : (s.takePost p).jobsSound :=
  jobsSound_congr (slots_takePost_congr (s := s.untiled) (t := s) rfl p) (jobKeys_of_jobs (by simp; rfl))
    (regionsSound_takePost ((regionsSound_untiled_iff s).mpr h) p).1

theorem jobsSound_cutSlot {s : State} (h : s.jobsSound) (n : Fin 16) (o : SlotOutcome) : (s.cutSlot n o).jobsSound :=
  jobsSound_congr (slots_cutSlot_untiled s n o) (jobKeys_of_jobs (jobs_cutSlot_untiled s n o))
    (regionsSound_cutSlot ((regionsSound_untiled_iff s).mpr h) n o).1

theorem jobsSound_offer {s : State} (h : s.jobsSound) (p : Poster) : (s.offer p).jobsSound := by
  unfold State.offer
  split
  · exact jobsSound_takePost h p
  · exact h

@[simp] theorem modes_queue_startPass (s : State) : s.startPass.queue.map Entry.mode = s.queue.map Entry.mode := by
  unfold State.startPass
  split <;> simp [State.markDue]

@[simp] theorem modes_queue_settle (s : State) : s.settle.queue.map Entry.mode = s.queue.map Entry.mode := by
  unfold State.settle State.endPassIfDone
  repeat' split
  all_goals simp [State.markDue]

@[simp] theorem modes_queue_addRecord (s : State) (r : Record) (b : Bool) :
    (s.addRecord r b).queue.map Entry.mode = s.queue.map Entry.mode := by
  have hcleared (u : State) : (u.clearAfterTags r.tag).queue.map Entry.mode = u.queue.map Entry.mode := by
    simp only [State.clearAfterTags, List.map_map]
    refine List.map_congr_left fun e _ => ?_
    simp only [Function.comp_apply]
    split <;> rfl
  unfold State.addRecord
  dsimp only
  split <;> exact hcleared _

/-- A change of an entry's other fields keeps the modes that the entries name. -/
theorem modes_modify (q : List Entry) (i : Nat) {f : Entry → Entry} (hf : ∀ e, (f e).mode = e.mode) :
    (q.modify i f).map Entry.mode = q.map Entry.mode := by
  refine List.ext_getElem? fun k => ?_
  simp only [List.getElem?_map, List.getElem?_modify]
  cases q[k]? with
  | none => rfl
  | some e =>
    by_cases hk : i = k <;> simp [hk, hf]

@[simp] theorem modes_queue_setEntryState (s : State) (i : Nat) (st : EntryState) :
    (s.setEntryState i st).queue.map Entry.mode = s.queue.map Entry.mode :=
  modes_modify s.queue i fun _ => rfl

@[simp] theorem modes_queue_withdrawAll (s : State) :
    s.withdrawAll.queue.map Entry.mode = s.queue.map Entry.mode := by
  simp only [State.withdrawAll, List.map_map]
  refine List.map_congr_left fun e _ => ?_
  simp only [Function.comp_apply]
  split <;> rfl

/-- A removal takes at most one entry away. -/
theorem queue_removeEntry (s : State) (i : Nat) : (s.removeEntry i).queue = s.queue.eraseIdx i := by
  unfold State.removeEntry
  dsimp only
  split
  · split <;> rfl
  · rfl

theorem modes_queue_removeEntry_subset (s : State) (i : Nat) :
    (s.removeEntry i).queue.map Entry.mode ⊆ s.queue.map Entry.mode := by
  rw [queue_removeEntry]
  exact ((List.eraseIdx_sublist s.queue i).map _).subset

theorem modes_queue_takePost_subset (s : State) (p : Poster) :
    (s.takePost p).queue.map Entry.mode ⊆ s.queue.map Entry.mode := by
  cases p with
  | slot n =>
    simp only [State.takePost, State.takeSlotPost]
    split <;> simp [State.setSlot, State.releaseTiles]
  | entry t =>
    simp only [State.takePost, State.takeEntryPost]
    split
    · exact List.Subset.refl _
    · split
      · exact List.Subset.refl _
      · rename_i i _ _ e _
        have hremove := modes_queue_removeEntry_subset (s.addRecord (e.record s.frame.counter) false) i
        rw [modes_queue_addRecord] at hremove
        split
        · rw [modes_queue_startPass]
          exact hremove
        · exact hremove

theorem usedModesReady_takePost {s : State} (h : s.usedModesReady) (p : Poster) : (s.takePost p).usedModesReady := by
  refine usedModesReady_mono h (fun m _ => mode_of_store (by simp) m) (modes_queue_takePost_subset s p) fun n => ?_
  rw [slot_takePost]
  split <;> simp [Slot.cleared]

theorem usedModesReady_offer {s : State} (h : s.usedModesReady) (p : Poster) : (s.offer p).usedModesReady := by
  unfold State.offer
  split
  · exact usedModesReady_takePost h p
  · exact h

/-- A slot that is not FREE keeps its mode as it enters ENDING. -/
theorem usedModesReady_endSlot {s : State} (h : s.usedModesReady) {n : Fin 16} (hn : (s.slot n).state ≠ .free)
    (o : SlotOutcome) : (s.endSlot n o).usedModesReady := by
  refine usedModesReady_offer ?_ _
  refine usedModesReady_mono h (fun _ _ => rfl) (List.Subset.refl _) fun m => ?_
  rw [slot_setSlot]
  split
  · rename_i hm
    simp [hm, hn]
  · simp

theorem usedModesReady_cutSlot {s : State} (h : s.usedModesReady) (n : Fin 16) (o : SlotOutcome) :
    (s.cutSlot n o).usedModesReady := by
  unfold State.cutSlot
  split
  case h_1 hst => exact usedModesReady_endSlot (s := s.abandonSnapshot n) h (hst.trans_ne (by simp)) o
  case h_2 hst =>
    exact usedModesReady_endSlot (s := (s.leavePlan n).updateClaimed _ _) h (hst.trans_ne (by simp)) o
  all_goals exact h

end Sys2Proof.Machine

/-! PROOFS. `State.usesSound` over every command and event, and O57. -/

namespace Sys2Proof.Machine

/-- The invariant of O57. -/
def State.usesSound (s : State) : Prop := s.jobsSound ∧ s.usedModesReady

/-- The invariant reads the slots, the keys of the jobs, the modes of the entries and the descriptors. -/
theorem usesSound_congr {s t : State} (hs : t.slots = s.slots) (hj : t.jobKeys = s.jobKeys)
    (hq : t.queue.map Entry.mode = s.queue.map Entry.mode) (hm : t.store = s.store) (h : s.usesSound) : t.usesSound :=
  ⟨jobsSound_congr hs hj h.1,
    usedModesReady_of_slots h.2 (fun m _ => mode_of_store hm m) (hq ▸ List.Subset.refl _) hs⟩

theorem usesSound_of_same {s t : State} (hs : t.slots = s.slots) (hj : t.jobs = s.jobs)
    (hq : t.queue.map Entry.mode = s.queue.map Entry.mode) (hm : t.store = s.store) (h : s.usesSound) : t.usesSound :=
  usesSound_congr hs (jobKeys_of_jobs hj) hq hm h

theorem usesSound_of_sameBlocks {s t : State} (hb : s.sameBlocks t) (h : s.usesSound) : t.usesSound :=
  usesSound_of_same hb.slots hb.jobs (by rw [hb.queue]) hb.store h

theorem usesSound_startPass {s : State} (h : s.usesSound) : s.startPass.usesSound :=
  usesSound_of_same (by simp) (by simp) (by simp) (by simp) h

/-! ### Posts and cuts -/

theorem usesSound_takePost {s : State} (h : s.usesSound) (p : Poster) : (s.takePost p).usesSound :=
  ⟨jobsSound_takePost h.1 p, usedModesReady_takePost h.2 p⟩

theorem usesSound_offer {s : State} (h : s.usesSound) (p : Poster) : (s.offer p).usesSound :=
  ⟨jobsSound_offer h.1 p, usedModesReady_offer h.2 p⟩

theorem usesSound_offerEntries {s : State} (h : s.usesSound) (ts : List Tag) : (s.offerEntries ts).usesSound := by
  induction ts generalizing s with
  | nil => exact h
  | cons t ts ih => exact ih (usesSound_offer h _)

theorem usesSound_cutSlot {s : State} (h : s.usesSound) (n : Fin 16) (o : SlotOutcome) : (s.cutSlot n o).usesSound :=
  ⟨jobsSound_cutSlot h.1 n o, usedModesReady_cutSlot h.2 n o⟩

theorem usesSound_cutSlots {s : State} (h : s.usesSound) (o : SlotOutcome) (ns : List (Fin 16)) :
    (s.cutSlots o ns).usesSound := by
  induction ns generalizing s with
  | nil => exact h
  | cons n ns ih => exact ih (usesSound_cutSlot h n o)

/-! ### Transitions of the Power Sequencer that start a pass (R123, R128, R129) -/

@[simp] theorem modes_queue_enterOn (s : State) : s.enterOn.queue.map Entry.mode = s.queue.map Entry.mode := by
  simp [State.enterOn]

@[simp] theorem modes_queue_enterRising (s : State) : s.enterRising.queue.map Entry.mode = s.queue.map Entry.mode := by
  unfold State.enterRising
  dsimp only
  split <;> simp

@[simp] theorem modes_queue_enterOff (s : State) : s.enterOff.queue.map Entry.mode = s.queue.map Entry.mode := by
  unfold State.enterOff
  dsimp only
  split <;> simp

@[simp] theorem modes_queue_wakeRequest (s : State) : s.wakeRequest.queue.map Entry.mode = s.queue.map Entry.mode := by
  unfold State.wakeRequest
  split <;> simp

/-! ### Requests (R61 to R72, R148) -/

/-- A request is accepted in a READY mode only (R61). -/
theorem ready_of_accepted {s : State} {q : Request} {m : Fin 8} (h : s.checkRequest q = .accepted)
    (hm : modeNumber q.mode = some m) : (s.mode m).state = .ready := by
  unfold State.checkRequest at h
  simp only [hm] at h
  by_contra hready
  repeat' split at h
  all_goals cases h

theorem usesSound_acceptRequest {s : State} (h : s.usesSound) {q : Request} (hq : s.checkRequest q = .accepted) :
    (s.acceptRequest q).usesSound := by
  refine ⟨jobsSound_congr (by simp) (jobKeys_of_jobs (by simp)) h.1, fun m hused => ?_⟩
  obtain ⟨k, -, hk⟩ := modeNumber_of_accepted hq
  have haccept : s.acceptRequest q = State.startPass { s with queue := s.queue ++ [s.newEntry q k] } := by
    simp only [State.acceptRequest, hk]
  rw [mode_of_store (t := s.acceptRequest q) (s := s) (by simp)]
  rw [haccept, inUse_ne_zero_iff, modes_queue_startPass, List.map_append, List.mem_append] at hused
  rcases hused with (hentry | hnew) | hslot
  · exact h.2 m ((inUse_ne_zero_iff s m).mpr (.inl hentry))
  · rw [List.mem_singleton.mp hnew]
    exact ready_of_accepted hq hk
  · exact h.2 m ((inUse_ne_zero_iff s m).mpr (.inr (by simpa [State.slot] using hslot)))

theorem usesSound_submit {s : State} (h : s.usesSound) : s.submit.1.usesSound := by
  unfold State.submit State.offerRequest
  split
  · exact usesSound_acceptRequest h ‹_›
  · exact h

theorem usesSound_cancelTag {s : State} (h : s.usesSound) (t : Tag) : (s.cancelTag t).1.usesSound := by
  unfold State.cancelTag
  split
  · exact h
  · split
    · split
      · split
        · exact usesSound_offer (usesSound_of_same (by simp) (by simp) (by simp) (by simp) h) _
        · exact h
      · exact h
    · split
      · split
        · exact usesSound_cutSlot h _ _
        · exact h
      · exact h

theorem usesSound_cancelAll {s : State} (h : s.usesSound) : s.cancelAll.1.usesSound := by
  have hcut : ((s.withdrawAll.offerEntries s.waitingTags).cutSlots .cancelled slotNumbers).usesSound :=
    usesSound_cutSlots (usesSound_offerEntries (usesSound_of_same (by simp) (by simp) (by simp) (by simp) h) _) _ _
  unfold State.cancelAll
  dsimp only
  split
  · exact hcut
  · exact usesSound_of_same (by simp) (by simp) (by simp) (by simp) hcut

theorem usesSound_popRecord {s : State} (h : s.usesSound) : s.popRecord.1.usesSound := by
  unfold State.popRecord
  split
  · exact h
  · rename_i rest _
    have hrest (ps : List Poster) : State.usesSound { s with completions := rest, posters := ps } := h
    dsimp only
    split
    · exact hrest s.posters
    · rename_i p ps _
      exact usesSound_takePost (hrest ps) p

/-! ### Presentations (R30, R31) -/

theorem usesSound_present {s : State} (h : s.usesSound) : s.present.usesSound := by
  unfold State.present
  split
  · exact usesSound_of_same rfl rfl rfl rfl (usesSound_acceptRequest h ‹_›)
  all_goals exact h

theorem usesSound_completeWindow {s : State} (h : s.usesSound) : s.completeWindow.usesSound := by
  unfold State.completeWindow
  split
  · exact usesSound_present h
  · exact h

theorem usesSound_presentAgain {s : State} (h : s.usesSound) : s.presentAgain.usesSound := by
  unfold State.presentAgain
  split
  · exact usesSound_present (s := { s with load := _ }) h
  · exact h

theorem usesSound_serveLoad {s : State} (h : s.usesSound) (stop : LoadEngine → Bool) (n : Nat) :
    (s.serveLoad stop n).usesSound :=
  usesSound_of_same (by simp) (by simp) (by simp) (by simp) h

theorem usesSound_endDrain {s : State} (h : s.usesSound) : s.endDrain.usesSound := by
  have hserve := usesSound_serveLoad h (fun l => l.fifo.isEmpty) (4 * s.load.fifo.length)
  unfold State.endDrain
  split
  · dsimp only
    split
    · split
      · exact hserve
      · exact usesSound_completeWindow hserve
    · exact h
  · exact h

theorem usesSound_endFill {s : State} (h : s.usesSound) : s.endFill.usesSound := by
  unfold State.endFill
  split
  · dsimp only
    split
    · exact usesSound_completeWindow (usesSound_serveLoad h _ _)
    · exact h
  · exact h

/-! ### Examinations (R77 to R89) -/

/-- A start is in the entry's own mode, or in a clean mode that is READY (R84, R87, R88). -/
theorem decideEntry_mode (s : State) (i : Nat) (e : Entry) (b : Fin 8) (n : Fin 16) :
    (∃ r, s.decideEntry i e b n = s.reject i e r) ∨
      ∃ sl : Slot, sl.startsOver e ∧ (sl.mode = e.mode ∨ (s.mode sl.mode).state = .ready) ∧
        s.decideEntry i e b n = s.startRegion i n sl := by
  unfold State.decideEntry
  split
  · exact .inl ⟨_, rfl⟩
  · split
    · split
      · exact .inl ⟨_, rfl⟩
      · split
        · exact .inl ⟨_, rfl⟩
        · rename_i husable
          simp only [State.cleanUsable, Bool.not_eq_true', Bool.not_eq_false, Bool.and_eq_true, beq_iff_eq] at husable
          exact .inr ⟨_, ⟨rfl, rfl, rfl, claims_union e.rect⟩, .inr husable.1.1, rfl⟩
    · exact .inr ⟨_, ⟨rfl, rfl, rfl, fun _ _ => rfl⟩, .inl rfl, rfl⟩

/-- The entry that the running pass examines is one of the queue's (R76). -/
theorem examineNext_entry (s : State) :
    s.examineNext = s ∨ ∃ i e, s.queue[i]? = some e ∧ s.examineNext = s.examine i e := by
  unfold State.examineNext
  split
  · split
    · exact .inl rfl
    · split
      · exact .inl rfl
      · exact .inr ⟨_, _, ‹_›, rfl⟩
  · exact .inl rfl

/-- A start into a FREE slot, in a READY mode. -/
theorem usesSound_startRegion {s : State} (h : s.usesSound) (i : Nat) {n : Fin 16} {sl : Slot} {e : Entry}
    (hn : s.freeSlot = some n) (hsl : sl.startsOver e) (hready : (s.mode sl.mode).state = .ready) :
    (s.startRegion i n sl).usesSound := by
  have hclaimed : (s.claimedStart n sl).usesSound := by
    refine ⟨jobsSound_claimedStart h.1 (state_of_freeSlot hn) hsl, fun m hused => ?_⟩
    rw [inUse_ne_zero_iff] at hused
    rcases hused with hentry | ⟨k, hk, rfl⟩
    · exact h.2 m ((inUse_ne_zero_iff s m).mpr (.inl hentry))
    · rw [slot_claimedStart] at hk ⊢
      split
      · exact hready
      · rename_i hne
        rw [if_neg hne] at hk
        exact h.2 _ ((inUse_ne_zero_iff s _).mpr (.inr ⟨k, hk, rfl⟩))
  rw [startRegion_eq]
  exact ⟨jobsSound_congr (by simp) (jobKeys_of_jobs (by simp)) hclaimed.1,
    usedModesReady_of_slots hclaimed.2 (fun m _ => mode_of_store (by simp) m)
      (modes_queue_removeEntry_subset _ i) (by simp)⟩

theorem usesSound_examine {s : State} (h : s.usesSound) (i : Nat) {e : Entry} (he : e ∈ s.queue) :
    (s.examine i e).usesSound := by
  have hq : (s.reached i).usesSound := usesSound_of_same (s := s) rfl rfl (modes_modify s.queue i fun _ => rfl) rfl h
  rcases examine_cases s i e with hx | hx | ⟨b, n, hn, -, hx⟩
  · rw [hx]
    exact hq
  · rw [hx]
    exact usesSound_of_same (by simp) (by simp) (by simp) (by simp) hq
  · rw [hx]
    rcases decideEntry_mode (s.reached i) i e b n with ⟨r, hd⟩ | ⟨sl, hsl, hmode, hd⟩
    · rw [hd]
      exact usesSound_offer (usesSound_of_same (by simp) (by simp) (by simp) (by simp) hq) _
    · rw [hd]
      refine usesSound_startRegion hq i hn hsl (hmode.elim (fun hown => ?_) id)
      rw [hown]
      exact h.2 _ ((inUse_ne_zero_iff s _).mpr (.inl (List.mem_map_of_mem he)))

theorem usesSound_examineNext {s : State} (h : s.usesSound) : s.examineNext.usesSound := by
  rcases examineNext_entry s with hx | ⟨i, e, he, hx⟩
  · rw [hx]
    exact h
  · rw [hx]
    exact usesSound_examine h i (List.mem_of_getElem? he)

/-! ### Frame starts (R97, R98) -/

theorem advance_mode (c : Word) (sl : Slot) : (sl.advance c).mode = sl.mode := by
  unfold Slot.advance
  repeat' split
  all_goals rfl

theorem usesSound_regionFrame {s : State} (h : s.usesSound) : s.regionFrame.usesSound := by
  unfold State.regionFrame
  split
  · have hadv : s.advanced.usesSound :=
      ⟨jobsSound_advanced h.1, usedModesReady_mono h.2 (fun _ _ => rfl) (List.Subset.refl _) fun n hn => by
        simpa [slot_advanced, advance_mode, advance_free_iff] using hn⟩
    exact usesSound_of_same (by simp [State.advanced]) (by simp [State.advanced, State.commitJobs])
      (by simp [State.advanced]) (by simp [State.advanced]) hadv
  · exact h

theorem usesSound_deliverFrame {s : State} (h : s.usesSound) (o : FrameOrder) : (s.deliverFrame o).usesSound := by
  have ht : State.usesSound
      (State.temperatureFrame { s with frame := ⟨some s.config.frameTime, false, s.frame.counter + 1⟩ }) :=
    usesSound_of_same (by simp) (by simp) (by simp) (by simp) h
  unfold State.deliverFrame
  dsimp only
  cases o with
  | regionFirst =>
    have hr := usesSound_regionFrame ht
    exact usesSound_of_same (by simp) (by simp) (by simp) (by simp) hr
  | sequencerFirst =>
    have hp (u : State) (hu : u.usesSound) : u.powerFrame.usesSound :=
      usesSound_of_same (by simp) (by simp) (by simp) (by simp) hu
    have hr := usesSound_regionFrame (hp _ ht)
    exact usesSound_of_same (by simp) (by simp) (by simp) (by simp) hr

theorem usesSound_endScan {s : State} (h : s.usesSound) (o : FrameOrder) : (s.endScan o).usesSound := by
  unfold State.endScan
  dsimp only
  split
  · exact usesSound_deliverFrame (s := State.raise { s with scan := none } .frameLate) h o
  · exact h

theorem usesSound_frameStart {s : State} (h : s.usesSound) (o : FrameOrder) : (s.frameStart o).usesSound := by
  unfold State.frameStart
  dsimp only
  split
  · exact usesSound_deliverFrame (s := State.raise { s with scan := none } .frameLate) h o
  · exact usesSound_deliverFrame (s := { s with scan := none }) h o

theorem usesSound_settle {s : State} (h : s.usesSound) : s.settle.usesSound := by
  have hd : s.dischargeIfDue.usesSound := usesSound_of_same (by simp) (by simp) (by simp) (by simp) h
  have hstop : s.dischargeIfDue.stopScanIfLeft.usesSound := by
    unfold State.stopScanIfLeft
    split
    · exact hd
    · split
      · exact hd
      · exact usesSound_endScan hd _
  exact usesSound_of_same (by simp [State.settle]) (by simp [State.settle]) (by simp) (by simp) hstop

/-! ### The ends of jobs (R95, R100, R101) -/

theorem slots_endSnapshot_untiled (s : State) : s.endSnapshot.slots = s.untiled.endSnapshot.slots := by
  have hjobs : s.untiled.jobs = s.jobs := rfl
  have hslots : s.untiled.slots = s.slots := rfl
  unfold State.endSnapshot
  rw [hjobs]
  split
  · rfl
  · split
    · simp [State.setSlot, State.slot, hslots]
    · rfl

theorem jobs_endSnapshot_untiled (s : State) : s.endSnapshot.jobs = s.untiled.endSnapshot.jobs := by
  have hjobs : s.untiled.jobs = s.jobs := rfl
  unfold State.endSnapshot
  rw [hjobs]
  split
  · rfl
  · split <;> rfl

theorem slots_endCommit_untiled (s : State) : s.endCommit.slots = s.untiled.endCommit.slots := by
  have hjobs : s.untiled.jobs = s.jobs := rfl
  unfold State.endCommit
  rw [hjobs]
  split
  · rfl
  · split
    · refine slots_endSlot_congr ?_ ?_ _ _ <;> simp [State.updateClaimed] <;> rfl
    · rfl

theorem jobs_endCommit_untiled (s : State) : s.endCommit.jobs = s.untiled.endCommit.jobs := by
  have hjobs : s.untiled.jobs = s.jobs := rfl
  unfold State.endCommit
  rw [hjobs]
  split
  · rfl
  · split
    · simp only [endSlot_frame]
      rfl
    · rfl

theorem jobsSound_endSnapshot {s : State} (h : s.jobsSound) : s.endSnapshot.jobsSound :=
  jobsSound_congr (slots_endSnapshot_untiled s) (jobKeys_of_jobs (jobs_endSnapshot_untiled s))
    (regionsSound_endSnapshot ((regionsSound_untiled_iff s).mpr h)).1

theorem jobsSound_endCommit {s : State} (h : s.jobsSound) : s.endCommit.jobsSound :=
  jobsSound_congr (slots_endCommit_untiled s) (jobKeys_of_jobs (jobs_endCommit_untiled s))
    (regionsSound_endCommit ((regionsSound_untiled_iff s).mpr h)).1

/-- The end of a snapshot leaves a slot's state and mode alone (R95). -/
theorem usedModesReady_endSnapshot {s : State} (h : s.usedModesReady) : s.endSnapshot.usedModesReady := by
  refine usedModesReady_mono h (fun m _ => mode_of_store (by simp) m) (by simp) fun n => ?_
  unfold State.endSnapshot
  split
  · exact fun hn => ⟨hn, rfl⟩
  · rename_i j rest _
    split
    · have hserve : ∀ m, s.serveJob.slot m = s.slot m := slot_of_slots (by simp)
      have hslot := slot_setSlot s.serveJob j.slot n { s.serveJob.slot j.slot with snapshotDone := true }
      have hjobs (u : State) : State.slot { u with jobs := rest } n = u.slot n := rfl
      dsimp only
      rw [hjobs, hslot]
      split
      · rename_i hn
        simp [hserve, hn]
      · simp [hserve]
    · exact fun hn => ⟨hn, rfl⟩

/-- The running commit job is of a slot in COMMITTING (R94). -/
theorem committing_of_commit {s : State} (h : s.jobsSound) {j : Job} {rest : List Job} (hjobs : s.jobs = j :: rest)
    (hkind : j.kind = .commit) : (s.slot j.slot).state = .committing := by
  obtain ⟨-, -, -, hcommit⟩ := h
  exact (hcommit j.slot).mp ⟨j, by simp [hjobs], rfl, hkind⟩

theorem usedModesReady_endCommit {s : State} (hj : s.jobsSound) (h : s.usedModesReady) :
    s.endCommit.usedModesReady := by
  unfold State.endCommit
  split
  · exact h
  · rename_i j rest hjobs
    split
    · rename_i hkind
      refine usedModesReady_endSlot ?_ ?_ _
      · exact usedModesReady_of_slots h (fun m _ => mode_of_store (by simp [State.updateClaimed]) m)
          (by simp [State.updateClaimed]) (by simp [State.updateClaimed])
      · rw [slot_of_slots (s := s) (by simp [State.updateClaimed]), committing_of_commit hj hjobs hkind]
        simp
    · exact h

theorem usesSound_quadAccess {s : State} (h : s.usesSound) : s.quadAccess.usesSound :=
  usesSound_congr (by simp) (jobKeys_quadAccess s) (by simp) (by simp) h

/-! ### Descriptors (R47, R48, R51, R53) -/

/-- What changes the descriptors of modes not in use alone. -/
theorem usesSound_of_unused {s t : State} (hs : t.slots = s.slots) (hj : t.jobs = s.jobs)
    (hq : t.queue.map Entry.mode = s.queue.map Entry.mode) (hm : ∀ m, s.inUse m ≠ 0 → t.mode m = s.mode m)
    (h : s.usesSound) : t.usesSound :=
  ⟨jobsSound_congr hs (jobKeys_of_jobs hj) h.1, usedModesReady_of_slots h.2 hm (hq ▸ List.Subset.refl _) hs⟩

theorem usesSound_setMode {s : State} (h : s.usesSound) {m : Fin 8} (hm : s.inUse m = 0) (d : Descriptor) :
    (s.setMode m d).usesSound := by
  refine usesSound_of_unused (by rfl) (by rfl) (by rfl) (fun k hk => ?_) h
  rw [mode_setMode, if_neg]
  rintro rfl
  exact hk hm

theorem usesSound_modeCheck {s : State} (h : s.usesSound) : s.modeCheck.1.usesSound := by
  unfold State.modeCheck
  split
  · exact h
  · split
    · exact h
    · split
      · exact h
      · exact usesSound_setMode h (not_not.mp ‹_›) _

theorem usesSound_modeErase {s : State} (h : s.usesSound) : s.modeErase.1.usesSound := by
  unfold State.modeErase
  split
  · exact h
  · split
    · exact h
    · split
      · exact h
      · exact usesSound_setMode h (not_not.mp ‹_›) _

/-- The mode whose check is in progress is in CHECKING (R48). -/
theorem state_of_checking {s : State} {m : Fin 8} (h : s.checking = some m) : (s.mode m).state = .checking := by
  simpa using List.find?_some h

theorem usesSound_endCheck {s : State} (h : s.usesSound) : s.endCheck.usesSound := by
  unfold State.endCheck
  split
  · exact h
  · rename_i m hm
    have hunused : s.inUse m = 0 := by
      by_contra hused
      simpa [h.2 m hused] using state_of_checking hm
    split
    · exact usesSound_startPass (s := State.raise _ _) (usesSound_setMode h hunused _)
    · exact usesSound_setMode h hunused _

/-- A reopened mode is OPEN without a bad reason, and no other mode changes (R47). -/
theorem mode_reopenMode (s : State) (m k : Fin 8) :
    (s.reopenMode m).mode k = if k = m then { s.mode m with state := .opened, badReason := none } else s.mode k := by
  rw [← mode_setMode]
  unfold State.reopenMode
  dsimp only
  split <;> rfl

theorem mode_reopenModes_of_not_mem (ms : List (Fin 8)) {s : State} {k : Fin 8} (hk : k ∉ ms) :
    (s.reopenModes ms).mode k = s.mode k := by
  induction ms generalizing s with
  | nil => rfl
  | cons m ms ih =>
    rw [List.mem_cons, not_or] at hk
    exact (ih hk.2).trans (by rw [mode_reopenMode, if_neg hk.1])

/-- A table write that is performed leaves the modes in use alone (R46). -/
theorem usesSound_tableWrite {s : State} (h : s.usesSound) (ms : List (Fin 8)) {f : State → State}
    (hs : (f s).slots = s.slots) (hj : (f s).jobs = s.jobs) (hq : (f s).queue = s.queue)
    (hm : ∀ k, k ∉ ms → (f s).mode k = s.mode k) : (s.tableWrite ms f).usesSound := by
  unfold State.tableWrite
  split
  · exact h
  · rename_i hunused
    refine usesSound_of_unused (by simpa using hs) (by simpa using hj) (by simp [hq]) (fun k hk => ?_) h
    have hmem : k ∉ ms := fun hmem => hunused (List.any_eq_true.mpr ⟨k, hmem, by simpa using hk⟩)
    rw [mode_reopenModes_of_not_mem ms hmem, hm k hmem]

theorem usesSound_tablePortWrite {s : State} (h : s.usesSound) (w : Word) : (s.tablePortWrite w).usesSound := by
  have hadvance {u : State} (hu : u.usesSound) : u.advanceIndex.usesSound := hu
  refine hadvance ?_
  split
  · unfold State.writeDescriptor
    split
    · split
      · refine usesSound_tableWrite h _ rfl rfl rfl fun k hk => ?_
        rw [mode_setMode, if_neg (by simpa using hk)]
      · exact h
    · exact h
  · unfold State.writePair
    split
    · exact usesSound_tableWrite h _ rfl rfl rfl fun _ _ => rfl
    · exact h
  · unfold State.writeRow
    split
    · exact usesSound_tableWrite h _ rfl rfl rfl fun _ _ => rfl
    · exact h
  all_goals exact usesSound_of_same (by simp) (by simp) (by simp) (by simp) h

/-! ### Every command and event -/

theorem usesSound_of_cleared {s : State} (hs : ∀ n, s.slot n = Slot.cleared) (hj : s.jobs = []) (hq : s.queue = []) :
    s.usesSound := by
  refine ⟨(regionsSound_untiled_iff s).mp (regionsSound_of_cleared hs hj ?_), usedModesReady_of_none hq hs⟩
  simp [State.owners, State.untiled]

theorem usesSound_softReset (s : State) : s.softReset.usesSound :=
  usesSound_of_cleared (fun n => Vector.getElem_replicate n.isLt) rfl rfl

theorem usesSound_pinReset (s : State) : s.pinReset.usesSound :=
  usesSound_of_cleared (fun n => Vector.getElem_replicate n.isLt) rfl rfl

theorem usesSound_commandEffect {s : State} (h : s.usesSound) (code : Word) : (s.commandEffect code).1.usesSound := by
  unfold State.commandEffect
  split
  case h_1 => exact usesSound_submit h
  case h_2 => exact usesSound_cancelTag h _
  case h_3 => exact usesSound_cancelAll h
  case h_4 => exact usesSound_popRecord h
  case h_8 =>
    unfold State.tileSet
    dsimp only
    repeat' split
    all_goals exact usesSound_of_same (by simp) (by simp) (by simp) (by simp) h
  case h_9 => exact usesSound_modeCheck h
  case h_10 => exact usesSound_modeErase h
  case h_11 =>
    unfold State.powerUp
    repeat' split
    all_goals exact usesSound_of_same (by simp) (by simp) (by simp) (by simp) h
  case h_13 =>
    unfold State.clearFault
    split <;> exact usesSound_of_same (by simp) (by simp) (by simp) (by simp) h
  case h_15 => exact usesSound_softReset s
  all_goals exact usesSound_of_same (by simp) (by simp) (by simp) (by simp) h

theorem usesSound_writeRegister {s : State} (h : s.usesSound) (r : Reg) (w : Word) :
    (s.writeRegister r w).usesSound := by
  cases r with
  | command =>
    have hb : State.usesSound { s with bus := { s.bus with command := w } } := h
    exact usesSound_of_sameBlocks (sameBlocks_commanded s w fun s => s.commandEffect w) (usesSound_commandEffect hb w)
  | tableData => exact usesSound_tablePortWrite h w
  | control =>
    simp only [State.writeRegister, State.writeControl]
    split <;> exact usesSound_of_same (by simp) (by simp) (by simp) (by simp) h
  | _ =>
    exact usesSound_of_same (by simp [State.writeRegister]) (by simp [State.writeRegister])
      (by simp [State.writeRegister, State.writePolicy]) (by simp [State.writeRegister]) h

theorem usesSound_fallOfPgood {s : State} (h : s.usesSound) : s.fallOfPgood.usesSound := by
  unfold State.fallOfPgood
  dsimp only
  split
  case h_1 | h_2 =>
    refine usesSound_cutSlots ?_ _ _
    exact usesSound_of_same (by simp) (by simp) (by simp) (by simp) h
  all_goals exact h

theorem usesSound_riseOfPgood {s : State} (h : s.usesSound) : s.riseOfPgood.usesSound := by
  unfold State.riseOfPgood
  dsimp only
  split
  · exact usesSound_of_same (by simp) (by simp) (by simp) (by simp) h
  all_goals exact h

theorem usesSound_expireFall {s : State} (h : s.usesSound) : s.expireFall.usesSound := by
  unfold State.expireFall
  repeat' split
  all_goals exact usesSound_of_same (by simp) (by simp) (by simp) (by simp) h

theorem usesSound_endConversion {s : State} (h : s.usesSound) (c : BitVec 10) : (s.endConversion c).usesSound := by
  unfold State.endConversion
  dsimp only
  repeat' split
  all_goals exact usesSound_of_same (by simp) (by simp) (by simp) (by simp) h

theorem usesSound_expireFrameTimer {s : State} (h : s.usesSound) (o : FrameOrder) :
    (s.expireFrameTimer o).usesSound := by
  unfold State.expireFrameTimer
  split
  · exact h
  · split
    · exact h
    · exact usesSound_deliverFrame h o

theorem usesSound_scanEnds {s : State} (h : s.usesSound) (o : FrameOrder) : (s.scanEnds o).usesSound := by
  unfold State.scanEnds
  split
  · exact usesSound_endScan h o
  · exact h

theorem usesSound_reachIdle {s : State} (h : s.usesSound) (o : FrameOrder) : (s.reachIdle o).usesSound := by
  unfold State.reachIdle
  split
  · exact usesSound_frameStart h o
  · exact h

theorem usesSound_reachDischarge {s : State} (h : s.usesSound) : s.reachDischarge.usesSound := by
  unfold State.reachDischarge
  split
  · exact usesSound_frameStart h _
  · exact h

theorem usesSound_reachPeriod {s : State} (h : s.usesSound) (o : FrameOrder) : (s.reachPeriod o).usesSound := by
  unfold State.reachPeriod
  split
  · exact usesSound_frameStart h o
  · exact h

/-- The effect of every command and event that has a route keeps the invariant. Those not named leave the slots, the
jobs, the queue and the descriptors alone. -/
theorem usesSound_effect (s : State) (c : Instr) (hc : route c ≠ none) (h : s.usesSound) : (s.effect c).usesSound := by
  cases hw : registerWriteOf c with
  | some rw => exact effect_of_registerWriteOf hw s ▸ usesSound_writeRegister h rw.1 rw.2
  | none =>
    cases c with
    | pgoodRise => exact usesSound_riseOfPgood h
    | pgoodFall => exact usesSound_fallOfPgood h
    | frameTimerExpiry o => exact usesSound_expireFrameTimer h o
    | frameStart o => exact usesSound_frameStart h o
    | scanEnd o => exact usesSound_scanEnds h o
    | fallTimerExpiry => exact usesSound_expireFall h
    | idleCountReached o => exact usesSound_reachIdle h o
    | dischargeCountReached => exact usesSound_reachDischarge h
    | periodicConversionRequest o => exact usesSound_reachPeriod h o
    | conversionEnd c => exact usesSound_endConversion h c
    | checkEnd => exact usesSound_endCheck h
    | quadAccess => exact usesSound_quadAccess h
    | drainEnd => exact usesSound_endDrain h
    | fillEnd => exact usesSound_endFill h
    | snapshotEnd => exact ⟨jobsSound_endSnapshot h.1, usedModesReady_endSnapshot h.2⟩
    | commitEnd => exact ⟨jobsSound_endCommit h.1, usedModesReady_endCommit h.1 h.2⟩
    | entryExamination => exact usesSound_examineNext h
    | autoPresentationRetry => exact usesSound_presentAgain h
    | unknownCommand code =>
      have hb : State.usesSound { s with bus := { s.bus with command := code } } := h
      exact usesSound_of_sameBlocks (sameBlocks_commanded s code State.noCommand) hb
    | vddApplied | pinReset | resetRelease | busAccessInReset => simp [route] at hc
    | _ =>
      exact usesSound_of_same (by simp_all [State.effect, registerWriteOf])
        (by simp_all [State.effect, registerWriteOf]) (by simp_all [State.effect, registerWriteOf])
        (by simp_all [State.effect, registerWriteOf]) h

/-- Settles O57: the invariant `State.usesSound` through the one step of `step_keeps`. -/
theorem usedModesStayReady : Obligations.UsedModesStayReady := by
  intro s t hs h
  exact step_keeps (P := State.usesSound) usesSound_of_sameBlocks usesSound_pinReset usesSound_effect
    (fun _ => usesSound_settle) hs h

end Sys2Proof.Machine

/-! PROOFS. The drive lookup and the places of what it reads in the tables (R39 to R41), MODE_CHECK, MODE_ERASE and the
end of a check (R48, R51, R53). -/

namespace Sys2Proof.Machine

/-! ### The drive lookup -/

theorem bits_ofBits {n : Nat} (h : n < 4) : (DriveCode.ofBits n).bits = n := by
  interval_cases n <;> rfl

/-- The two bits of a code in a row word (R40). -/
theorem bits_codeInWord (w : Word) (j : Nat) : (codeInWord w j).bits = w.toNat / 4 ^ j % 4 := by
  have hfield : field w (2 * j) 2 = w.toNat / 4 ^ j % 4 := by
    rw [field, Nat.pow_mul]
    rfl
  rw [codeInWord, hfield, bits_ofBits (Nat.mod_lt _ (by omega))]

/-- Code 8k + j of a row lies in word k of the row's eight (R40). -/
theorem rowCode_eq (s : State) (r k : Nat) {j : Nat} (hj : j < 8) :
    s.rowCode r (8 * k + j) = codeInWord (s.rowWordAt (8 * r + k)) j := by
  have hword : (8 * k + j) / 8 = k := by omega
  have hplace : (8 * k + j) % 8 = j := by omega
  rw [State.rowCode, hword, hplace]

theorem driveLookup_of_unchanged {s : State} {m : Fin 8} {f t : Level} (h : (s.mode m).changedOnly = true ∧ f = t)
    (b : Fin 8) (i : Nat) : s.driveLookup m b i f t = .neutral := by
  simp [State.driveLookup, h]

theorem driveLookup_of_none {s : State} {m b : Fin 8} {f t : Level}
    (h : s.pairEntry m b (f.toNat * 16 + t.toNat) = none) (i : Nat) : s.driveLookup m b i f t = .neutral := by
  simp [State.driveLookup, h]

theorem driveLookup_of_some {s : State} {m b : Fin 8} {f t : Level} {o : BitVec 11}
    (h : ¬((s.mode m).changedOnly = true ∧ f = t)) (hpair : s.pairEntry m b (f.toNat * 16 + t.toNat) = some o)
    (i : Nat) : s.driveLookup m b i f t = s.rowCode ((s.mode m).rowBase.toNat + o.toNat) i := by
  simp [State.driveLookup, h, hpair]

/-- Settles O24, by the cases of the lookup and the places in the tables. -/
theorem driveLookup : Obligations.DriveLookup := by
  intro s m b i f t
  refine ⟨fun hc hft => driveLookup_of_unchanged ⟨hc, hft⟩ b i, fun hp => driveLookup_of_none hp i,
    fun o hn hp => driveLookup_of_some hn hp i, fun _ => rfl, fun r k j hj => ?_⟩
  rw [rowCode_eq s r k hj, bits_codeInWord]

/-! ### MODE_CHECK and MODE_ERASE -/

theorem argMode_eq_none {s : State} (h : 8 ≤ (s.arg 0).toNat % 16) : s.argMode = none :=
  dif_neg (by simpa [field] using h)

theorem argMode_eq_some {s : State} {m : Fin 8} (h : (s.arg 0).toNat % 16 = m.val) : s.argMode = some m := by
  have hfield : field (s.arg 0) 0 4 = m.val := by simpa [field] using h
  exact (dif_pos (hfield.trans_lt m.isLt)).trans (congrArg some (Fin.ext hfield))

/-- No check is in progress where no mode is CHECKING. -/
theorem checking_isSome_eq_false {s : State} (h : ∀ m, (s.mode m).state ≠ .checking) : s.checking.isSome = false := by
  rw [← Bool.not_eq_true, checking_isSome_iff]
  exact fun ⟨m, hm⟩ => h m hm

theorem exec_modeCheck {s : State} (h : s.takes) :
    exec .modeCheck s = .next (s.modeCheck.1.answered 0x09 s.modeCheck.2) := by
  obtain ⟨-, -, -, hcommanded, -⟩ := commanded_plain s
  exact exec_of_keeps h (by simp [route]) hcommanded ⟨by simp, by simp, by simp, by simp, by simp⟩

theorem exec_modeErase {s : State} (h : s.takes) :
    exec .modeErase s = .next (s.modeErase.1.answered 0x0A s.modeErase.2) := by
  obtain ⟨-, -, -, -, hcommanded, -⟩ := commanded_plain s
  exact exec_of_keeps h (by simp [route]) hcommanded ⟨by simp, by simp, by simp, by simp, by simp⟩

theorem mode_answered (s : State) (code : Word) (r : Result) (m : Fin 8) : (s.answered code r).mode m = s.mode m := rfl

/-- Settles O27, by the rows of R48's and R53's tables. -/
theorem modeCheckAndErase : Obligations.ModeCheckAndErase := by
  intro s h
  rw [exec_modeCheck h, exec_modeErase h]
  refine ⟨fun hbad => ?_, fun m hm => ⟨fun hused => ?_, fun hfree hbusy => ?_, fun hfree hidle => ?_,
    fun hfree hchecking => ?_, fun hfree hnot => ?_⟩⟩
  · simp [State.modeCheck, State.modeErase, argMode_eq_none hbad]
  · simp [State.modeCheck, State.modeErase, argMode_eq_some hm, hused]
  · simp [State.modeCheck, argMode_eq_some hm, hfree, (checking_isSome_iff s).mpr hbusy]
  · have hcheck : s.modeCheck =
        (s.setMode m { s.mode m with state := .checking, badReason := none, checkWord := s.arg 1 }, .accepted) := by
      simp [State.modeCheck, argMode_eq_some hm, hfree, checking_isSome_eq_false hidle]
    rw [hcheck]
    exact ⟨_, rfl, by simp [mode_answered], fun k hk => by simp [mode_answered, hk], rfl⟩
  · simp [State.modeErase, argMode_eq_some hm, hfree, hchecking]
  · have herase : s.modeErase = (s.setMode m Descriptor.zeroed, .accepted) := by
      simp [State.modeErase, argMode_eq_some hm, hfree, hnot]
    rw [herase]
    exact ⟨_, rfl, by simp [mode_answered, Descriptor.zeroed], fun k hk => by simp [mode_answered, hk], rfl⟩

/-! ### The end of a check -/

/-- The check in progress is of the one mode in CHECKING. -/
theorem checking_eq_some {s : State} {m : Fin 8} (hm : (s.mode m).state = .checking)
    (hone : ∀ k, (s.mode k).state = .checking → k = m) : s.checking = some m := by
  obtain ⟨k, hk⟩ := Option.isSome_iff_exists.mp ((checking_isSome_iff s).mpr ⟨m, hm⟩)
  rw [hk, hone k (state_of_checking hk)]

/-- The descriptor, the flag and the STATUS fields that the end of a check of mode m writes (R51). -/
def State.checkEnded (s : State) (m : Fin 8) (d : Descriptor) (r : CheckResult) : State :=
  State.raise { s.setMode m d with store := { (s.setMode m d).store with checkMode := m, checkResult := r } } .table

theorem mode_checkEnded (s : State) (m k : Fin 8) (d : Descriptor) (r : CheckResult) :
    (s.checkEnded m d r).mode k = if k = m then d else s.mode k :=
  mode_setMode s m k d

theorem endCheck_of_none {s : State} {m : Fin 8} (hm : s.checking = some m) (h : s.checkDefect m = none) :
    s.endCheck = (s.checkEnded m { s.mode m with state := .ready, badReason := none } .ready).startPass := by
  simp only [State.endCheck, hm, h]
  rfl

theorem endCheck_of_some {s : State} {m : Fin 8} {r : BadReason} (hm : s.checking = some m)
    (h : s.checkDefect m = some r) :
    s.endCheck = s.checkEnded m { s.mode m with state := .bad, badReason := some r } (.bad r) := by
  simp only [State.endCheck, hm, h]
  rfl

/-- Settles O29, by whether a check is in progress and by what it finds. -/
theorem checkEnds : Obligations.CheckEnds := by
  intro s h
  refine ⟨fun hidle => ?_, fun m hm hone => ⟨fun hnone => ?_, fun r hsome => ?_⟩⟩
  · have hchecking : s.checking = none := by
      simpa using checking_isSome_eq_false hidle
    exact exec_event_of_keeps h rfl (by simp [State.effect, State.endCheck, hchecking]) ⟨rfl, rfl, rfl, rfl, rfl⟩
  · refine ⟨_, ?_, (mode_checkEnded s m m _ _).trans (if_pos rfl), fun k hk =>
      (mode_checkEnded s m k _ _).trans (if_neg hk), rfl, rfl⟩
    rw [exec_running_event rfl h.1, State.effect, endCheck_of_none (checking_eq_some hm hone) hnone]
  · refine ⟨_, exec_event_of_keeps h rfl (endCheck_of_some (checking_eq_some hm hone) hsome)
      ⟨rfl, rfl, rfl, rfl, rfl⟩, (mode_checkEnded s m m _ _).trans (if_pos rfl), fun k hk =>
      (mode_checkEnded s m k _ _).trans (if_neg hk), rfl, rfl⟩

end Sys2Proof.Machine

/-! PROOFS. The passes of a check and the check word sum (R49, R50). -/

namespace Sys2Proof.Machine

theorem mem_bands (d : Descriptor) (b : Fin 8) : b ∈ d.bands ↔ d.bandSet.getLsbD b = true := by
  simp [Descriptor.bands, mem_modeNumbers, Descriptor.hasBand]

/-! ### The defects, in the order of the passes -/

/-- NO_BAND: no band is in the band set. -/
def Descriptor.bandless (d : Descriptor) : Prop := ∀ b : Fin 8, d.bandSet.getLsbD b = false

/-- FRAME_COUNT: a band of the set has an unusable frame count. -/
def Descriptor.badFrameCount (d : Descriptor) : Prop :=
  ∃ b : Fin 8, d.bandSet.getLsbD b = true ∧ ((d.frameCounts[b]).toNat < 1 ∨ 64 < (d.frameCounts[b]).toNat)

/-- ROW_RANGE of the first pass: the row range is empty or leaves the pool. -/
def Descriptor.badRowRange (d : Descriptor) : Prop :=
  d.rowCount.toNat = 0 ∨ 2048 < d.rowBase.toNat + d.rowCount.toNat

/-- ROW_RANGE of the second pass: an entry of a band of the set names a row beyond the row range. -/
def State.hasEntryBeyond (s : State) (m : Fin 8) : Prop :=
  ∃ b : Fin 8, (s.mode m).bandSet.getLsbD b = true ∧ ∃ i o, i < 256 ∧ s.pairEntry m b i = some o ∧
    (s.mode m).rowCount.toNat ≤ o.toNat

/-- ILLEGAL_CODE: a code within the used length of a referenced row is GROUND. -/
def State.hasGroundCode (s : State) (m : Fin 8) : Prop :=
  ∃ b : Fin 8, (s.mode m).bandSet.getLsbD b = true ∧ ∃ i o k, i < 256 ∧ s.pairEntry m b i = some o ∧
    k < ((s.mode m).frameCounts[b]).toNat ∧ s.rowCode ((s.mode m).rowBase.toNat + o.toNat) k = .ground

theorem isEmpty_bands_iff (d : Descriptor) : d.bands.isEmpty = true ↔ d.bandless := by
  simp [List.eq_nil_iff_forall_not_mem, mem_bands, Descriptor.bandless]

theorem any_frameCounts_iff (d : Descriptor) :
    (d.bands.any fun b => decide ((d.frameCounts[b]).toNat < 1) || decide (64 < (d.frameCounts[b]).toNat)) = true ↔
      d.badFrameCount := by
  simp only [List.any_eq_true, mem_bands, Bool.or_eq_true, decide_eq_true_eq]
  rfl

/-- A test of the entries of the pair maps of the band set, said of one entry. -/
theorem any_entries_iff (s : State) (m : Fin 8) (p : Fin 8 → BitVec 11 → Bool) :
    ((s.mode m).bands.any fun b => (List.range 256).any fun i =>
      match s.pairEntry m b i with | none => false | some o => p b o) = true ↔
      ∃ b : Fin 8, (s.mode m).bandSet.getLsbD b = true ∧
        ∃ i o, i < 256 ∧ s.pairEntry m b i = some o ∧ p b o = true := by
  simp only [List.any_eq_true, mem_bands, List.mem_range]
  refine exists_congr fun b => and_congr_right fun _ => exists_congr fun i => ?_
  cases s.pairEntry m b i <;> simp

theorem entryOutOfRange_iff (s : State) (m : Fin 8) : s.entryOutOfRange m = true ↔ s.hasEntryBeyond m := by
  refine (any_entries_iff s m fun _ o => decide ((s.mode m).rowCount.toNat ≤ o.toNat)).trans ?_
  simp only [decide_eq_true_eq]
  rfl

theorem groundUsed_iff (s : State) (m : Fin 8) : s.groundUsed m = true ↔ s.hasGroundCode m := by
  refine (any_entries_iff s m fun b o => (List.range ((s.mode m).frameCounts[b]).toNat).any fun k =>
    s.rowCode ((s.mode m).rowBase.toNat + o.toNat) k == .ground).trans ?_
  simp only [List.any_eq_true, List.mem_range, beq_iff_eq, State.hasGroundCode]
  refine exists_congr fun b => and_congr_right fun _ => exists_congr fun i => exists_congr fun o => ?_
  simp only [exists_and_left]

theorem checkDefect_of_bandless {s : State} {m : Fin 8} (h : (s.mode m).bandless) :
    s.checkDefect m = some .noBand := by
  simp only [State.checkDefect, Descriptor.defect, isEmpty_bands_iff, h, if_true]

theorem checkDefect_of_frameCount {s : State} {m : Fin 8} (hb : ¬(s.mode m).bandless) (h : (s.mode m).badFrameCount) :
    s.checkDefect m = some .frameCount := by
  simp only [State.checkDefect, Descriptor.defect, isEmpty_bands_iff, any_frameCounts_iff, hb, h, if_true, if_false]

/-- Past the band and frame count defects, the row range decides the first pass. -/
theorem defect_of_usable {d : Descriptor} (hb : ¬d.bandless) (hf : ¬d.badFrameCount) :
    d.defect = if d.rowCount.toNat = 0 ∨ Config.poolRows < d.rowBase.toNat + d.rowCount.toNat then some .rowRange
      else none := by
  simp only [Descriptor.defect, isEmpty_bands_iff, any_frameCounts_iff, hb, hf, if_false]

theorem checkDefect_of_rowRange {s : State} {m : Fin 8} (hb : ¬(s.mode m).bandless) (hf : ¬(s.mode m).badFrameCount)
    (h : (s.mode m).badRowRange) : s.checkDefect m = some .rowRange := by
  simp only [State.checkDefect, (defect_of_usable hb hf).trans (if_pos h)]

/-- Past the first pass, the later ones decide. -/
theorem checkDefect_of_sound {s : State} {m : Fin 8} (hb : ¬(s.mode m).bandless) (hf : ¬(s.mode m).badFrameCount)
    (hr : ¬(s.mode m).badRowRange) :
    s.checkDefect m =
      if s.entryOutOfRange m = true then some .rowRange
      else if s.groundUsed m = true then some .illegalCode
      else if s.checkSum m = (s.mode m).checkWord then none else some .checkWord := by
  simp only [State.checkDefect, (defect_of_usable hb hf).trans (if_neg hr), ne_eq, ite_not]

/-! ### The check word sum -/

/-- A sum over the bands of the set, band by band. -/
theorem sum_bands (d : Descriptor) (f : Fin 8 → Nat) :
    (d.bands.map f).sum = ∑ b : Fin 8, if d.bandSet.getLsbD b = true then f b else 0 := by
  have hnumbers : modeNumbers = List.finRange 8 := by decide
  have hset : d.hasBand = fun b : Fin 8 => decide (d.bandSet.getLsbD b = true) := by
    funext b
    simp [Descriptor.hasBand]
  rw [Fin.sum_univ_def, Descriptor.bands, ← hnumbers, List.sum_map_ite, hset]
  simp

theorem sum_range (f : Nat → Nat) (n : Nat) : ((List.range n).map f).sum = ∑ i ∈ Finset.range n, f i := rfl

theorem toNat_checkSum (s : State) (m : Fin 8) :
    (s.checkSum m).toNat = ((s.mode m).levelCode.toNat
      + (flagBit (s.mode m).flash + 2 * flagBit (s.mode m).changedOnly) + (s.mode m).rowBase.toNat
      + (s.mode m).rowCount.toNat + (s.mode m).bandSet.toNat
      + (∑ b : Fin 8, if (s.mode m).bandSet.getLsbD b = true then
          ((s.mode m).frameCounts[b]).toNat + ∑ i ∈ Finset.range 256, pairNumber (s.pairEntry m b i) else 0)
      + ∑ k ∈ Finset.range (8 * (s.mode m).rowCount.toNat),
          (s.rowWordAt (8 * (s.mode m).rowBase.toNat + k)).toNat) % 65536 := by
  have hsplit : ∀ (f g : Fin 8 → Nat),
      ((s.mode m).bands.map f).sum + ((s.mode m).bands.map g).sum = ((s.mode m).bands.map fun b => f b + g b).sum :=
    fun f g => List.sum_map_add.symm
  simp only [State.checkSum, wordOf, BitVec.toNat_ofNat, sum_range]
  rw [Nat.add_assoc (_ + (s.mode m).bandSet.toNat), hsplit, sum_bands]

/-- Settles O28, by the passes of the check. -/
theorem checkFindsTheFirstDefect : Obligations.CheckFindsTheFirstDefect := by
  intro s m
  refine ⟨checkDefect_of_bandless, checkDefect_of_frameCount, checkDefect_of_rowRange, fun hb hf hr he => ?_,
    fun hb hf hr he hg => ?_, fun hb hf hr he hg => ?_, fun _ => toNat_checkSum s m⟩
  · rw [checkDefect_of_sound hb hf hr, if_pos ((entryOutOfRange_iff s m).mpr he)]
  · rw [checkDefect_of_sound hb hf hr, if_neg (mt (entryOutOfRange_iff s m).mp he),
      if_pos ((groundUsed_iff s m).mpr hg)]
  · rw [checkDefect_of_sound hb hf hr, if_neg (mt (entryOutOfRange_iff s m).mp he),
      if_neg (mt (groundUsed_iff s m).mp hg)]

end Sys2Proof.Machine

/-! PROOFS. Writes to table spaces 0 to 2 (R38 to R40, R45 to R47, R52): the modes affected, what a performed write
leaves in the tables, and what reopening the affected modes changes. -/

namespace Sys2Proof.Machine

/-! ### What a write does before the affected modes are reopened -/

/-- The word written at an offset of space 0, 1 or 2 (R38 to R40). -/
def State.storeWord (s : State) (sp off : Nat) (w : Word) : State :=
  match sp with
  | 0 =>
    if h : off < 128 then
      s.setMode ⟨off / 16, by omega⟩ ((s.mode ⟨off / 16, by omega⟩).writeWord (off % 16) w)
    else s
  | 1 => { s with store := { s.store with pairs := s.store.pairs.write off (pairOfNumber w.toNat) } }
  | _ => { s with store := { s.store with rows := s.store.rows.write off w } }

/-- A word of spaces 0 to 2 that takes a write (R38 to R40). -/
def writableWord (sp off : Nat) : Prop := if sp = 0 then off < 128 ∧ off % 16 < 12 else off < 16384

/-- The state as a performed write leaves it, but for the offset (R47). -/
def State.wordWritten (s : State) (sp off : Nat) (w : Word) : State :=
  (s.storeWord sp off w).reopenModes (s.affectedModes sp off)

theorem filter_modeNumbers (m : Fin 8) : (modeNumbers.filter fun k => decide (m.val = k.val)) = [m] := by
  revert m
  decide

theorem affectedModes_zero (s : State) {off : Nat} (h : off < 128) (hword : off % 16 < 12) :
    s.affectedModes 0 off = [⟨off / 16, by omega⟩] := by
  simpa [State.affectedModes, hword] using filter_modeNumbers ⟨off / 16, by omega⟩

theorem affectedModes_one (s : State) {off : Nat} (h : off < 16384) :
    s.affectedModes 1 off = [⟨off / 2048, by omega⟩] :=
  filter_modeNumbers ⟨off / 2048, by omega⟩

theorem affectedModes_two (s : State) {off : Nat} (h : off < 16384) :
    s.affectedModes 2 off = modeNumbers.filter fun m => (s.mode m).inRange (off / 8) := by
  simp [State.affectedModes, h]

/-- The table port's write to space 0, 1 or 2 (R45 to R47, R159). -/
theorem tablePortWrite_eq {s : State} (hsp : s.bus.tableSpace.toNat ≤ 2) (w : Word)
    [Decidable (writableWord s.bus.tableSpace.toNat s.bus.tableOffset.toNat)] :
    s.tablePortWrite w = State.advanceIndex
      (if writableWord s.bus.tableSpace.toNat s.bus.tableOffset.toNat then
        s.tableWrite (s.affectedModes s.bus.tableSpace.toNat s.bus.tableOffset.toNat)
          fun s' => s'.storeWord s.bus.tableSpace.toNat s.bus.tableOffset.toNat w
      else s) := by
  unfold State.tablePortWrite
  generalize s.bus.tableSpace.toNat = sp at *
  generalize s.bus.tableOffset.toNat = off at *
  congr 1
  interval_cases sp
  · simp only [writableWord, if_true, State.writeDescriptor]
    by_cases h : off < 128
    · by_cases hword : off % 16 < 12
      · simp [h, hword, affectedModes_zero s h hword, State.storeWord]
      · simp [hword]
    · simp [h]
  · simp only [writableWord, State.writePair]
    by_cases h : off < 16384
    · simp [h, affectedModes_one s h, State.storeWord]
    · simp [h]
  · simp only [writableWord, State.writeRow]
    by_cases h : off < 16384
    · simp [h, affectedModes_two s h, State.storeWord]
    · simp [h]

/-! ### The words of a descriptor (R38, Table 11.7) -/

/-- Word k of a descriptor's block, the in-use count of its mode being `used`. -/
def Descriptor.word (d : Descriptor) (used k : Nat) : Word :=
  match k with
  | 0 => pack [(0, d.levelCode.toNat), (2, flagBit d.flash), (3, flagBit d.changedOnly)]
  | 1 => pack [(0, d.rowBase.toNat)]
  | 2 => pack [(0, d.rowCount.toNat)]
  | 3 => pack [(0, d.bandSet.toNat)]
  | 12 => d.checkWord
  | 13 => pack [(0, d.state.code), (4, match d.badReason with | none => 0 | some r => r.code)]
  | 14 => pack [(0, used)]
  | k => if h : 4 ≤ k ∧ k < 12 then pack [(0, (d.frameCounts[k - 4]'(by omega)).toNat)] else 0

theorem descriptorWord_eq (s : State) (m : Fin 8) (k : Nat) :
    s.descriptorWord m k = (s.mode m).word (s.inUse m) k := rfl

theorem tableWord_zero (s : State) {off : Nat} (h : off < 128) :
    s.tableWord 0 off = (s.mode ⟨off / 16, by omega⟩).word (s.inUse ⟨off / 16, by omega⟩) (off % 16) :=
  (dif_pos h).trans (descriptorWord_eq s _ _)

theorem tableWord_zero_beyond (s : State) {off : Nat} (h : ¬off < 128) : s.tableWord 0 off = 0 := dif_neg h

section WriteWord

variable (d : Descriptor) (k : Nat) (w : Word)

@[simp] theorem writeWord_state : (d.writeWord k w).state = d.state := by
  unfold Descriptor.writeWord
  repeat' split
  all_goals rfl

@[simp] theorem writeWord_badReason : (d.writeWord k w).badReason = d.badReason := by
  unfold Descriptor.writeWord
  repeat' split
  all_goals rfl

@[simp] theorem writeWord_checkWord : (d.writeWord k w).checkWord = d.checkWord := by
  unfold Descriptor.writeWord
  repeat' split
  all_goals rfl

/-- A written word lands in its own fields (R38). -/
theorem writeWord_fields :
    (d.writeWord k w).levelCode = (if k = 0 then fieldBits w 0 2 else d.levelCode) ∧
    (d.writeWord k w).flash = (if k = 0 then bitOf w 2 else d.flash) ∧
    (d.writeWord k w).changedOnly = (if k = 0 then bitOf w 3 else d.changedOnly) ∧
    (d.writeWord k w).rowBase = (if k = 1 then fieldBits w 0 11 else d.rowBase) ∧
    (d.writeWord k w).rowCount = (if k = 2 then fieldBits w 0 12 else d.rowCount) ∧
    (d.writeWord k w).bandSet = (if k = 3 then fieldBits w 0 8 else d.bandSet) := by
  unfold Descriptor.writeWord
  split
  case h_5 => split <;> simp_all
  all_goals simp

theorem writeWord_frameCounts {b : Nat} (hb : b < 8) :
    (d.writeWord k w).frameCounts[b] = if k = b + 4 then fieldBits w 0 7 else d.frameCounts[b] := by
  unfold Descriptor.writeWord
  split
  case h_5 =>
    split
    · simp only [Vector.getElem_set]
      congr 1
      simp only [eq_iff_iff]
      omega
    · rw [if_neg (by omega)]
  all_goals simp

/-- A write to one word of a block leaves the others. -/
theorem word_writeWord_of_ne (used : Nat) {k' : Nat} (h : k' ≠ k) :
    (d.writeWord k w).word used k' = d.word used k' := by
  obtain ⟨hlevel, hflash, hchanged, hbase, hcount, hset⟩ := writeWord_fields d k w
  unfold Descriptor.word
  split
  case h_8 =>
    split
    · rw [writeWord_frameCounts, if_neg (by omega)]
    · rfl
  all_goals simp [*, Ne.symm h]

theorem toNat_pack_one (n : Nat) : (pack [(0, n)]).toNat = n % 65536 := by
  simp [pack]

theorem flagBit_bitOf (w : Word) (i : Nat) : flagBit (bitOf w i) = w.toNat / 2 ^ i % 2 := by
  rw [bitOf, ← BitVec.testBit_toNat, Nat.testBit_eq_decide_div_mod_eq, flagBit]
  rcases Nat.mod_two_eq_zero_or_one (w.toNat / 2 ^ i) with h | h <;> simp [h]

theorem word_frameCount (used : Nat) {b : Nat} (hb : b < 8) :
    d.word used (b + 4) = pack [(0, (d.frameCounts[b]).toNat)] := by
  interval_cases b <;> rfl

/-- The word written reads back as its field's width holds it (Table 11.7, space 0). -/
theorem word_writeWord_same (used : Nat) (h : k < 12) :
    ((d.writeWord k w).word used k).toNat =
      w.toNat % 2 ^ (if k = 0 then 4 else if k = 1 then 11 else if k = 2 then 12 else if k = 3 then 8 else 7) := by
  obtain ⟨hlevel, hflash, hchanged, hbase, hcount, hset⟩ := writeWord_fields d k w
  match k, h with
  | 0, _ =>
    simp only [Descriptor.word, hlevel, hflash, hchanged, if_true, flagBit_bitOf, toNat_fieldBits, pack]
    simp
    omega
  | 1, _ | 2, _ | 3, _ =>
    simp only [Descriptor.word, hbase, hcount, hset, if_true, toNat_pack_one, toNat_fieldBits]
    simp
    omega
  | b + 4, h =>
    have hb : b < 8 := by omega
    rw [word_frameCount _ _ hb, writeWord_frameCounts _ _ _ hb, if_pos rfl, toNat_pack_one, toNat_fieldBits]
    simp
    omega

end WriteWord

/-- Reopening a mode shows in word 13 of its block alone. -/
theorem word_reopened (d : Descriptor) (st : ModeState) (r : Option BadReason) (used : Nat) {k : Nat} (h : k ≠ 13) :
    Descriptor.word { d with state := st, badReason := r } used k = d.word used k := by
  unfold Descriptor.word
  split
  case h_6 => exact absurd rfl h
  all_goals rfl

/-! ### Modes reopened (R47, R52) -/

/-- The modes named are OPEN without a bad reason, and no other mode changes. -/
theorem mode_reopenModes (s : State) (ms : List (Fin 8)) (k : Fin 8) :
    (s.reopenModes ms).mode k =
      if k ∈ ms then { s.mode k with state := .opened, badReason := none } else s.mode k := by
  induction ms generalizing s with
  | nil => rfl
  | cons m ms ih =>
    have hcons : s.reopenModes (m :: ms) = (s.reopenMode m).reopenModes ms := rfl
    rw [hcons, ih, mode_reopenMode]
    by_cases hm : k = m
    · subst hm
      by_cases hk : k ∈ ms <;> simp [hk]
    · simp [hm]

theorem tables_reopenModes (s : State) (ms : List (Fin 8)) :
    (s.reopenModes ms).store.pairs = s.store.pairs ∧ (s.reopenModes ms).store.rows = s.store.rows := by
  induction ms generalizing s with
  | nil => exact ⟨rfl, rfl⟩
  | cons m ms ih =>
    have hone : (s.reopenMode m).store.pairs = s.store.pairs ∧ (s.reopenMode m).store.rows = s.store.rows := by
      unfold State.reopenMode
      dsimp only
      split <;> exact ⟨rfl, rfl⟩
    exact ⟨(ih _).1.trans hone.1, (ih _).2.trans hone.2⟩

/-- A reopened mode that is not CHECKING reports nothing. -/
theorem reopenMode_of_not_checking {s : State} {m : Fin 8} (h : (s.mode m).state ≠ .checking) :
    s.reopenMode m = s.setMode m { s.mode m with state := .opened, badReason := none } := by
  simp [State.reopenMode, h]

/-- The report of the checks abandoned: the flags, CHECK_MODE and CHECK_RESULT. -/
def State.report (s : State) : BitVec 10 × Fin 8 × CheckResult := (s.events, s.store.checkMode, s.store.checkResult)

theorem report_reopenModes_of_none {s : State} {ms : List (Fin 8)} (h : ∀ m ∈ ms, (s.mode m).state ≠ .checking) :
    (s.reopenModes ms).report = s.report := by
  induction ms generalizing s with
  | nil => rfl
  | cons m ms ih =>
    have hreopen := reopenMode_of_not_checking (h m List.mem_cons_self)
    refine (ih fun k hk => ?_).trans ?_
    · rw [mode_reopenMode]
      split
      · simp
      · exact h k (List.mem_cons_of_mem m hk)
    · rw [hreopen]
      rfl

/-- The abandonment of the one check in progress is reported (R52). -/
theorem report_reopenModes_of_checking {s : State} {ms : List (Fin 8)} {m : Fin 8} (hmem : m ∈ ms)
    (hm : (s.mode m).state = .checking) (hone : ∀ k, (s.mode k).state = .checking → k = m) :
    (s.reopenModes ms).report = (s.events ||| (1#10 <<< 4), m, .abandoned) := by
  induction ms generalizing s with
  | nil => cases hmem
  | cons k ms ih =>
    by_cases hk : k = m
    · subst hk
      refine (report_reopenModes_of_none (s := s.reopenMode k) (ms := ms) fun j _ => ?_).trans ?_
      · rw [mode_reopenMode]
        split
        · simp
        · rename_i hj
          exact fun hc => hj (hone j hc)
      · simp only [State.reopenMode, hm, if_true]
        rfl
    · have hnot : (s.mode k).state ≠ .checking := fun hc => hk (hone k hc)
      have hreopen := reopenMode_of_not_checking hnot
      refine (ih (s := s.reopenMode k) ((List.mem_cons.mp hmem).resolve_left (Ne.symm hk)) ?_ fun j hj => ?_).trans ?_
      · rw [mode_reopenMode, if_neg (Ne.symm hk), hm]
      · rw [mode_reopenMode] at hj
        split at hj
        · simp at hj
        · exact hone j hj
      · rw [hreopen]
        rfl

/-- Reopening changes the store and the flags alone. -/
theorem restored_reopenModes {s u : State} (ms : List (Fin 8))
    (h : { u with store := s.store, events := s.events } = s) :
    { u.reopenModes ms with store := s.store, events := s.events } = s := by
  induction ms generalizing u with
  | nil => exact h
  | cons m ms ih =>
    refine ih ?_
    unfold State.reopenMode
    dsimp only
    split <;> exact h

/-! ### The word written -/

/-- A word written changes its table alone. -/
theorem restored_storeWord (s : State) (sp off : Nat) (w : Word) :
    { s.storeWord sp off w with store := s.store, events := s.events } = s := by
  unfold State.storeWord
  split
  · split <;> rfl
  all_goals rfl

theorem inUse_storeWord (s : State) (sp off : Nat) (w : Word) (m : Fin 8) :
    (s.storeWord sp off w).inUse m = s.inUse m := by
  unfold State.storeWord
  split
  · split <;> rfl
  all_goals rfl

theorem report_storeWord (s : State) (sp off : Nat) (w : Word) : (s.storeWord sp off w).report = s.report := by
  unfold State.storeWord
  split
  · split <;> rfl
  all_goals rfl

/-- A write to space 0 changes one word of one block. -/
theorem mode_storeWord_zero (s : State) {off : Nat} (h : off < 128) (w : Word) (m : Fin 8) :
    (s.storeWord 0 off w).mode m = if m.val = off / 16 then (s.mode m).writeWord (off % 16) w else s.mode m := by
  simp only [State.storeWord, dif_pos h, mode_setMode]
  by_cases hm : m = ⟨off / 16, by omega⟩
  · simp [hm]
  · rw [if_neg hm, if_neg fun hval => hm (Fin.ext hval)]

/-- A word written leaves the state of every mode, until the affected ones are reopened. -/
theorem state_storeWord (s : State) (sp off : Nat) (w : Word) (m : Fin 8) :
    ((s.storeWord sp off w).mode m).state = (s.mode m).state := by
  match sp with
  | 0 =>
    by_cases h : off < 128
    · rw [mode_storeWord_zero s h]
      split <;> simp
    · simp [State.storeWord, h]
  | 1 => rfl
  | _ + 2 => rfl

theorem mode_storeWord_of_not_mem {s : State} {sp off : Nat} {w : Word} {m : Fin 8} (hw : writableWord sp off)
    (hm : m ∉ s.affectedModes sp off) : (s.storeWord sp off w).mode m = s.mode m := by
  match sp with
  | 0 =>
    obtain ⟨hoff, hword⟩ := hw
    rw [mode_storeWord_zero s hoff, if_neg]
    simpa [affectedModes_zero s hoff hword, Fin.ext_iff] using hm
  | 1 => rfl
  | _ + 2 => rfl

/-- A number above 2048 is held as 2048 (R39). -/
theorem pairNumber_pairOfNumber (n : Nat) : pairNumber (pairOfNumber n) = min n 2048 := by
  unfold pairOfNumber
  split
  · rename_i h
    simp [h, pairNumber]
  · simp only [pairNumber, BitVec.toNat_ofNat, clamp]
    split
    · omega
    · split <;> omega

/-- The word written reads back as its field's width holds it (Table 11.7). -/
theorem toNat_tableWord_storeWord (s : State) {sp off : Nat} (w : Word) (hsp : sp ≤ 2) (hw : writableWord sp off) :
    ((s.storeWord sp off w).tableWord sp off).toNat =
      if sp = 0 then w.toNat % 2 ^ (if off % 16 = 0 then 4 else if off % 16 = 1 then 11
          else if off % 16 = 2 then 12 else if off % 16 = 3 then 8 else 7)
        else if sp = 1 then min w.toNat 2048 else w.toNat := by
  match sp with
  | 0 =>
    obtain ⟨hoff, hword⟩ := hw
    rw [tableWord_zero _ hoff, mode_storeWord_zero s hoff, if_pos rfl, if_pos rfl]
    exact word_writeWord_same _ _ _ _ hword
  | 1 =>
    have hoff : off < 16384 := hw
    simp [State.tableWord, State.storeWord, hoff, State.pairAt, Sparse.find_write, wordOf, pairNumber_pairOfNumber]
  | 2 =>
    have hoff : off < 16384 := hw
    simp [State.tableWord, State.storeWord, hoff, State.rowWordAt, Sparse.find_write]

/-- Every other word of the three spaces is as it was. -/
theorem tableWord_storeWord_of_ne (s : State) {sp off sp' off' : Nat} (w : Word) (hsp : sp ≤ 2)
    (hw : writableWord sp off) (hsp' : sp' ≤ 2) (hne : (sp', off') ≠ (sp, off)) :
    (s.storeWord sp off w).tableWord sp' off' = s.tableWord sp' off' := by
  match sp', sp with
  | 0, 0 =>
    have hoff' : off' ≠ off := fun h => hne (by rw [h])
    obtain ⟨hoff, -⟩ := hw
    by_cases hin : off' < 128
    · rw [tableWord_zero _ hin, tableWord_zero _ hin, mode_storeWord_zero s hoff, inUse_storeWord]
      split
      · rename_i hm
        exact word_writeWord_of_ne _ _ _ _ (by dsimp only at hm; omega)
      · rfl
    · rw [tableWord_zero_beyond _ hin, tableWord_zero_beyond _ hin]
  | 1, 1 =>
    have hoff' : off' ≠ off := fun h => hne (by rw [h])
    simp [State.tableWord, State.storeWord, State.pairAt, Sparse.find_write, hoff']
  | 2, 2 =>
    have hoff' : off' ≠ off := fun h => hne (by rw [h])
    simp [State.tableWord, State.storeWord, State.rowWordAt, Sparse.find_write, hoff']
  | 1, 0 | 2, 0 =>
    obtain ⟨hoff, -⟩ := hw
    simp only [State.storeWord, dif_pos hoff]
    rfl
  | 0, 1 | 0, 2 | 1, 2 | 2, 1 => rfl

/-- Reopening modes shows in word 13 of their blocks alone. -/
theorem tableWord_reopenModes (s : State) (ms : List (Fin 8)) {sp off : Nat} (hsp : sp ≤ 2)
    (hstate : sp = 0 → off % 16 ≠ 13) : (s.reopenModes ms).tableWord sp off = s.tableWord sp off := by
  obtain ⟨hpairs, hrows⟩ := tables_reopenModes s ms
  match sp with
  | 0 =>
    have hused : ∀ m, (s.reopenModes ms).inUse m = s.inUse m := fun m => by
      simp [State.inUse, State.slot]
    by_cases hin : off < 128
    · rw [tableWord_zero _ hin, tableWord_zero _ hin, mode_reopenModes, hused]
      split
      · exact word_reopened _ _ _ _ (hstate rfl)
      · rfl
    · rw [tableWord_zero_beyond _ hin, tableWord_zero_beyond _ hin]
  | 1 => simp [State.tableWord, State.pairAt, hpairs]
  | 2 => simp [State.tableWord, State.rowWordAt, hrows]

end Sys2Proof.Machine

/-! PROOFS. The step of a table write to spaces 0 to 2: ignored, refused or performed. -/

namespace Sys2Proof.Machine

theorem exec_tableDataWrite {s : State} (h : s.takes) (w : Word) :
    exec (.tableDataWrite w) s = .next (s.tablePortWrite w) :=
  exec_of_keeps h (by simp [route]) rfl ⟨by simp, by simp, by simp, by simp, by simp⟩

theorem tablePortWrite_ignored {s : State} (hsp : s.bus.tableSpace.toNat ≤ 2) (w : Word)
    (hw : ¬writableWord s.bus.tableSpace.toNat s.bus.tableOffset.toNat) : s.tablePortWrite w = s.advanceIndex := by
  classical
  rw [tablePortWrite_eq hsp w, if_neg hw]

theorem tablePortWrite_refused {s : State} (hsp : s.bus.tableSpace.toNat ≤ 2) (w : Word)
    (hw : writableWord s.bus.tableSpace.toNat s.bus.tableOffset.toNat)
    (hused : ∃ m ∈ s.affectedModes s.bus.tableSpace.toNat s.bus.tableOffset.toNat, s.inUse m ≠ 0) :
    s.tablePortWrite w = s.refuseTable.advanceIndex := by
  classical
  rw [tablePortWrite_eq hsp w, if_pos hw, State.tableWrite, if_pos (by simpa using hused)]

theorem tablePortWrite_performed {s : State} (hsp : s.bus.tableSpace.toNat ≤ 2) (w : Word)
    (hw : writableWord s.bus.tableSpace.toNat s.bus.tableOffset.toNat)
    (hfree : ∀ m ∈ s.affectedModes s.bus.tableSpace.toNat s.bus.tableOffset.toNat, s.inUse m = 0) :
    s.tablePortWrite w = (s.wordWritten s.bus.tableSpace.toNat s.bus.tableOffset.toNat w).advanceIndex := by
  classical
  rw [tablePortWrite_eq hsp w, if_pos hw, State.tableWrite, if_neg (by simpa using hfree)]
  rfl

/-- A performed write changes the store and the flags alone, and the offset that every access advances. -/
theorem restored_wordWritten (s : State) (sp off : Nat) (w : Word) :
    { s.wordWritten sp off w with store := s.store, events := s.events } = s :=
  restored_reopenModes _ (restored_storeWord s sp off w)

theorem tableWord_advanceIndex (s : State) (sp off : Nat) : s.advanceIndex.tableWord sp off = s.tableWord sp off := rfl

/-- The word written, and every other word but the states of the affected modes (R38 to R40, R47). -/
theorem tableWord_wordWritten (s : State) {sp off sp' off' : Nat} (w : Word) (hsp' : sp' ≤ 2)
    (hstate : sp' = 0 → off' % 16 ≠ 13) :
    (s.wordWritten sp off w).tableWord sp' off' = (s.storeWord sp off w).tableWord sp' off' :=
  tableWord_reopenModes _ _ hsp' hstate

theorem mode_wordWritten_of_mem (s : State) {sp off : Nat} (w : Word) {m : Fin 8} (hm : m ∈ s.affectedModes sp off) :
    ((s.wordWritten sp off w).mode m).state = .opened ∧ ((s.wordWritten sp off w).mode m).badReason = none := by
  rw [State.wordWritten, mode_reopenModes, if_pos hm]
  exact ⟨rfl, rfl⟩

theorem mode_wordWritten_of_not_mem {s : State} {sp off : Nat} (hw : writableWord sp off) (w : Word) {m : Fin 8}
    (hm : m ∉ s.affectedModes sp off) : (s.wordWritten sp off w).mode m = s.mode m := by
  rw [State.wordWritten, mode_reopenModes, if_neg hm, mode_storeWord_of_not_mem hw hm]

theorem report_wordWritten_of_none {s : State} {sp off : Nat} (w : Word)
    (h : ∀ m ∈ s.affectedModes sp off, (s.mode m).state ≠ .checking) :
    (s.wordWritten sp off w).report = s.report :=
  (report_reopenModes_of_none fun m hm => by rw [state_storeWord]; exact h m hm).trans (report_storeWord s sp off w)

theorem report_wordWritten_of_checking {s : State} {sp off : Nat} (w : Word) {m : Fin 8}
    (hmem : m ∈ s.affectedModes sp off) (hm : (s.mode m).state = .checking)
    (hone : ∀ k, (s.mode k).state = .checking → k = m) :
    (s.wordWritten sp off w).report = (s.events ||| (1#10 <<< 4), m, .abandoned) := by
  have hevents : (s.storeWord sp off w).events = s.events := congrArg Prod.fst (report_storeWord s sp off w)
  rw [← hevents]
  exact report_reopenModes_of_checking hmem ((state_storeWord s sp off w m).trans hm) fun k hk =>
    hone k ((state_storeWord s sp off w k).symm.trans hk)

/-- Settles O25, by whether the word is writable and whether an affected mode is in use. -/
theorem tableWritesAffectModes : Obligations.TableWritesAffectModes := by
  intro s w h hsp
  rw [exec_tableDataWrite h]
  refine ⟨fun hw => ?_, fun hw hused => ?_, fun hw hfree => ⟨_, rfl, ?_⟩⟩
  · rw [tablePortWrite_ignored hsp w hw]
    rfl
  · rw [tablePortWrite_refused hsp w hw hused]
    rfl
  rw [tablePortWrite_performed hsp w hw hfree]
  generalize s.bus.tableSpace.toNat = sp at *
  generalize s.bus.tableOffset.toNat = off at *
  have hrestored := restored_wordWritten s sp off w
  have hbus : (s.wordWritten sp off w).bus = s.bus := (congrArg State.bus hrestored :)
  replace hw : writableWord sp off := hw
  have hplace : sp = 0 → off % 16 ≠ 13 := fun h0 => by
    rw [writableWord, if_pos h0] at hw
    omega
  refine ⟨?_, ?_, fun sp' off' hsp' hne hstate => ?_, fun m hm => mode_wordWritten_of_mem s w hm,
    fun m hm => mode_wordWritten_of_not_mem hw w hm, fun hnone => ?_, fun m hm hchecking hone => ?_, ?_⟩
  · simp only [State.advanceIndex, hbus]
  · rw [tableWord_advanceIndex, tableWord_wordWritten s w hsp hplace]
    exact toNat_tableWord_storeWord s w hsp hw
  · rw [tableWord_advanceIndex, tableWord_wordWritten s w hsp' hstate]
    exact tableWord_storeWord_of_ne s w hsp hw hsp' hne
  · simpa [State.report] using report_wordWritten_of_none w hnone
  · simpa [State.report] using report_wordWritten_of_checking w hm hchecking hone
  · exact congrArg (fun u : State => { u with bus := s.bus }) hrestored

end Sys2Proof.Machine

/-! PROOFS. The live requests and the waiting posters (R60, R145): what `State.requestsSound` reads, and each operation
that offers a record, takes a post, accepts a request or starts one. -/

namespace Sys2Proof.Machine

/-! ### What the invariant reads -/

/-- The tag of an entry, and whether it is WAITING. -/
def Entry.standing (e : Entry) : Tag × Bool := (e.tag, e.state == .waiting)

/-- The standing of each entry, in the order of the queue. -/
def State.standings (s : State) : List (Tag × Bool) := s.queue.map Entry.standing

/-- No two live requests carry the same tag and none carries 0 (R60). -/
def State.tagsDistinct (s : State) : Prop := s.liveTags.Nodup ∧ (0 : Tag) ∉ s.liveTags

/-- The list names each poster whose record has not been taken, once (R145). -/
def State.listsPosters (s : State) (ps : List Poster) : Prop := ps.Nodup ∧ ∀ p, p ∈ ps ↔ s.offers p

/-- The slots in ENDING are those with an outcome pending (R92). -/
def State.outcomesAgree (s : State) : Prop := ∀ n, (s.slot n).outcome.isSome = true ↔ (s.slot n).state = .ending

/-- The invariant while the posters of a list have still to make their offers. -/
structure State.soundBut (s : State) (ps : List Poster) : Prop where
  tags : s.tagsDistinct
  outcomes : s.outcomesAgree
  posters : s.listsPosters (ps ++ s.posters)
  capacity : s.completions.length ≤ 16
  full : s.posters ≠ [] → s.completions.length = 16

theorem requestsSound_iff (s : State) : s.requestsSound ∧ s.outcomesAgree ↔ s.soundBut [] := by
  constructor
  · rintro ⟨⟨hnodup, hzero, hposters, hexact, hcap, hfull⟩, houtcomes⟩
    exact ⟨⟨hnodup, hzero⟩, houtcomes, ⟨hposters, hexact⟩, hcap, hfull⟩
  · rintro ⟨⟨hnodup, hzero⟩, houtcomes, ⟨hposters, hexact⟩, hcap, hfull⟩
    exact ⟨⟨hnodup, hzero, hposters, hexact, hcap, hfull⟩, houtcomes⟩

theorem map_fst_standings (s : State) : s.standings.map Prod.fst = s.queue.map Entry.tag := by
  simp [State.standings, Entry.standing, Function.comp_def]

theorem offers_entry_iff (s : State) (t : Tag) : s.offers (.entry t) ↔ (t, false) ∈ s.standings := by
  simp [State.offers, State.standings, Entry.standing]

theorem mem_liveTags (s : State) (t : Tag) :
    t ∈ s.liveTags ↔ (∃ e ∈ s.queue, e.tag = t) ∨ ∃ n, (s.slot n).state ≠ .free ∧ (s.slot n).tag = t := by
  simp [State.liveTags, mem_slotNumbers]

theorem nodup_slotNumbers : slotNumbers.Nodup := by decide

/-- Distinct tags, said of the entries among themselves, the slots among themselves, and the one against the other. -/
theorem nodup_liveTags_iff (s : State) :
    s.liveTags.Nodup ↔
      (s.queue.map Entry.tag).Nodup ∧
        (∀ n m, (s.slot n).state ≠ .free → (s.slot m).state ≠ .free → (s.slot n).tag = (s.slot m).tag → n = m) ∧
        ∀ n, (s.slot n).state ≠ .free → (s.slot n).tag ∉ s.queue.map Entry.tag := by
  unfold State.liveTags
  rw [List.nodup_append, List.nodup_map_iff_inj_on (nodup_slotNumbers.filter _)]
  simp only [List.mem_filter, mem_slotNumbers, true_and, bne_iff_ne, List.mem_map]
  refine and_congr_right fun _ => and_congr ⟨fun h n m hn hm => h n hn m hm, fun h n hn m hm => h n m hn hm⟩ ?_
  constructor
  · rintro h n hn ⟨e, he, htag⟩
    exact h _ ⟨e, he, rfl⟩ _ ⟨n, hn, rfl⟩ htag
  · rintro h _ ⟨e, he, rfl⟩ _ ⟨n, hn, rfl⟩ htag
    exact h n hn ⟨e, he, htag⟩

/-- What brings no live request keeps the tags distinct. -/
theorem tagsDistinct_mono {s t : State} (h : s.tagsDistinct)
    (hq : (t.queue.map Entry.tag).Sublist (s.queue.map Entry.tag))
    (hs : ∀ n, (t.slot n).state ≠ .free → (s.slot n).state ≠ .free ∧ (t.slot n).tag = (s.slot n).tag) :
    t.tagsDistinct := by
  obtain ⟨hnodup, hzero⟩ := h
  obtain ⟨hentries, hslots, hcross⟩ := (nodup_liveTags_iff s).mp hnodup
  refine ⟨(nodup_liveTags_iff t).mpr ⟨hq.nodup hentries, fun n m hn hm htag => ?_, fun n hn hmem => ?_⟩, fun hmem => ?_⟩
  · rw [(hs n hn).2, (hs m hm).2] at htag
    exact hslots n m (hs n hn).1 (hs m hm).1 htag
  · rw [(hs n hn).2] at hmem
    exact hcross n (hs n hn).1 (hq.subset hmem)
  · rw [mem_liveTags] at hmem hzero
    rcases hmem with ⟨e, he, htag⟩ | ⟨n, hn, htag⟩
    · exact hzero (.inl (by simpa using hq.subset (List.mem_map.mpr ⟨e, he, htag⟩)))
    · exact hzero (.inr ⟨n, (hs n hn).1, (hs n hn).2.symm.trans htag⟩)

/-- The invariant reads the standings of the entries, the slots, the waiting posters and the number of the records. -/
theorem soundBut_congr {s t : State} {ps : List Poster} (hq : t.standings = s.standings) (hs : t.slots = s.slots)
    (hp : t.posters = s.posters) (hc : t.completions.length = s.completions.length) (h : s.soundBut ps) :
    t.soundBut ps where
  tags := tagsDistinct_mono h.tags (by rw [← map_fst_standings, ← map_fst_standings, hq])
    fun n hn => by simpa [slot_of_slots hs] using hn
  outcomes n := by simpa only [slot_of_slots hs] using h.outcomes n
  posters := by
    refine ⟨hp ▸ h.posters.1, fun p => ?_⟩
    rw [hp, h.posters.2 p]
    cases p with
    | slot n => simp only [State.offers, slot_of_slots hs]
    | entry t => simp only [offers_entry_iff, hq]
  capacity := hc ▸ h.capacity
  full := by rw [hp, hc]; exact h.full

/-! ### Operations that leave the standings alone -/

/-- A change of one entry's other fields keeps what is read of every entry. -/
theorem map_modify_eq {α : Type} {g : Entry → α} (q : List Entry) (i : Nat) {f : Entry → Entry}
    (hf : ∀ e, g (f e) = g e) : (q.modify i f).map g = q.map g := by
  refine List.ext_getElem? fun k => ?_
  simp only [List.getElem?_map, List.getElem?_modify]
  cases q[k]? with
  | none => rfl
  | some e => by_cases hk : i = k <;> simp [hk, hf]

/-- A change of an entry's other fields keeps the standings. -/
theorem standing_map (q : List Entry) {f : Entry → Entry} (hf : ∀ e, (f e).standing = e.standing) :
    (q.map f).map Entry.standing = q.map Entry.standing := by
  simp [hf]

@[simp] theorem standings_markDue (s : State) (d : Bool) : (s.markDue d).standings = s.standings :=
  standing_map s.queue fun _ => rfl

@[simp] theorem standings_startPass (s : State) : s.startPass.standings = s.standings := by
  unfold State.startPass
  split
  · rfl
  · exact standings_markDue s true

theorem standings_of_queue {s t : State} (h : t.queue = s.queue) : t.standings = s.standings := by
  simp [State.standings, h]

@[simp] theorem standings_endPassIfDone (s : State) : s.endPassIfDone.standings = s.standings := by
  unfold State.endPassIfDone
  repeat' split
  · exact standings_markDue s true
  · exact standings_markDue s false
  · rfl

@[simp] theorem standings_settle (s : State) : s.settle.standings = s.standings := by
  rw [State.settle, standings_endPassIfDone]
  exact standings_of_queue (by simp)

@[simp] theorem standings_addRecord (s : State) (r : Record) (b : Bool) :
    (s.addRecord r b).standings = s.standings := by
  have hcleared (u : State) : (u.clearAfterTags r.tag).standings = u.standings :=
    standing_map u.queue fun e => by split <;> rfl
  unfold State.addRecord
  dsimp only
  split <;> exact hcleared _

@[simp] theorem standings_enterOn (s : State) : s.enterOn.standings = s.standings :=
  standings_startPass _

@[simp] theorem standings_enterRising (s : State) : s.enterRising.standings = s.standings := by
  unfold State.enterRising
  dsimp only
  split
  · exact standings_enterOn _
  · rfl

@[simp] theorem standings_enterOff (s : State) : s.enterOff.standings = s.standings := by
  unfold State.enterOff
  dsimp only
  split
  · exact (standings_enterRising _).trans (standings_startPass _)
  · exact standings_startPass _

@[simp] theorem standings_wakeRequest (s : State) : s.wakeRequest.standings = s.standings := by
  unfold State.wakeRequest
  split
  · exact standings_enterRising s
  all_goals rfl

theorem standings_reached (s : State) (i : Nat) : (s.reached i).standings = s.standings :=
  map_modify_eq s.queue i fun _ => rfl

/-! ### Entries by their tags -/

/-- With distinct tags, an entry is the only one that bears its tag. -/
theorem entry_of_tag {q : List Entry} (h : (q.map Entry.tag).Nodup) {e e' : Entry} (he : e ∈ q) (he' : e' ∈ q)
    (htag : e'.tag = e.tag) : e' = e :=
  List.inj_on_of_nodup_map h he' he htag

/-- The lookup of an entry's tag finds an entry that bears it. -/
theorem entryIndex_of_mem {s : State} {e : Entry} (he : e ∈ s.queue) :
    ∃ i e', s.entryIndex e.tag = some i ∧ s.queue[i]? = some e' ∧ e'.tag = e.tag := by
  have hsome : (s.entryIndex e.tag).isSome = true := by
    rw [State.entryIndex, List.findIdx?_isSome, List.any_eq_true]
    exact ⟨e, he, by simp⟩
  obtain ⟨i, hi⟩ := Option.isSome_iff_exists.mp hsome
  obtain ⟨hlt, htag, -⟩ := List.findIdx?_eq_some_iff_getElem.mp hi
  exact ⟨i, s.queue[i], hi, List.getElem?_eq_getElem hlt, by simpa using htag⟩

/-- With distinct tags, what stands at a position is removed by its tag. -/
theorem eraseIdx_eq_filter {α : Type} {f : α → Tag} {q : List α} (h : (q.map f).Nodup) {i : Nat} {a : α}
    (hi : q[i]? = some a) : q.eraseIdx i = q.filter fun b => decide (f b ≠ f a) := by
  induction q generalizing i with
  | nil => simp at hi
  | cons b q ih =>
    rw [List.map_cons, List.nodup_cons] at h
    cases i with
    | zero =>
      obtain rfl : b = a := by simpa using hi
      have hkeep : q.filter (fun c => decide (f c ≠ f b)) = q :=
        List.filter_eq_self.mpr fun c hc =>
          decide_eq_true fun heq : f c = f b => h.1 (heq ▸ List.mem_map_of_mem hc)
      simpa using hkeep.symm
    | succ i =>
      have ha : q[i]? = some a := by simpa using hi
      have hne : f b ≠ f a := fun heq => h.1 (heq ▸ List.mem_map_of_mem (List.mem_of_getElem? ha))
      simp [ih h.2 ha, hne]

/-! ### The taking of a post (R71, R106, R146) -/

/-- The standings that the taking of an entry's post leaves. -/
theorem standings_takeEntryPost {s : State} (h : (s.queue.map Entry.tag).Nodup) {e : Entry} (he : e ∈ s.queue) :
    (s.takeEntryPost e.tag).standings = s.standings.filter fun p => decide (p.1 ≠ e.tag) := by
  obtain ⟨i, e', hi, hget, htag⟩ := entryIndex_of_mem he
  have hremove : ((s.addRecord (e'.record s.frame.counter) false).removeEntry i).standings
      = s.standings.eraseIdx i := by
    rw [← standings_addRecord s (e'.record s.frame.counter) false]
    simp only [State.standings, queue_removeEntry, List.eraseIdx_map]
  have hfilter : s.standings.eraseIdx i = s.standings.filter fun p => decide (p.1 ≠ e.tag) := by
    rw [← htag]
    exact eraseIdx_eq_filter (f := Prod.fst) (a := e'.standing) (by rwa [map_fst_standings])
      (by simp [State.standings, hget])
  simp only [State.takeEntryPost, hi, hget]
  split <;> simp [hremove, hfilter]

theorem length_completions_takeEntryPost {s : State} {e : Entry} (he : e ∈ s.queue) :
    (s.takeEntryPost e.tag).completions.length = s.completions.length + 1 := by
  obtain ⟨i, e', hi, hget, -⟩ := entryIndex_of_mem he
  simp only [State.takeEntryPost, hi, hget]
  split <;> simp

theorem standings_takeSlotPost (s : State) (n : Fin 16) : (s.takeSlotPost n).standings = s.standings := by
  unfold State.takeSlotPost
  split
  · rfl
  · exact (standings_startPass _).trans (standings_addRecord s _ _)

theorem length_completions_takeSlotPost {s : State} {n : Fin 16} (h : (s.slot n).outcome.isSome = true) :
    (s.takeSlotPost n).completions.length = s.completions.length + 1 := by
  obtain ⟨o, ho⟩ := Option.isSome_iff_exists.mp h
  simp [State.takeSlotPost, ho]

/-- A poster that offers posts one record. -/
theorem length_completions_takePost {s : State} (hout : s.outcomesAgree) {p : Poster} (hp : s.offers p) :
    (s.takePost p).completions.length = s.completions.length + 1 := by
  cases p with
  | slot n => exact length_completions_takeSlotPost ((hout n).mpr hp)
  | entry t =>
    obtain ⟨e, he, rfl, -⟩ := hp
    exact length_completions_takeEntryPost he

/-- The poster whose post is taken offers no more, and every other poster offers as it did. -/
theorem offers_takePost {s : State} (h : s.tagsDistinct) (hout : s.outcomesAgree) {p : Poster} (hp : s.offers p)
    (q : Poster) : (s.takePost p).offers q ↔ q ≠ p ∧ s.offers q := by
  obtain ⟨hentries, -, -⟩ := (nodup_liveTags_iff s).mp h.1
  cases p with
  | slot n =>
    cases q with
    | entry t => simp [offers_entry_iff, State.takePost, standings_takeSlotPost]
    | slot m =>
      by_cases hm : m = n
      · subst hm
        simp [State.offers, slot_takePost, (hout m).mpr hp, Slot.cleared]
      · simp [State.offers, slot_takePost, hm, Ne.symm hm]
  | entry t =>
    obtain ⟨e, he, rfl, hstate⟩ := hp
    cases q with
    | slot m => simp [State.offers, slot_takePost]
    | entry t => simp [offers_entry_iff, State.takePost, standings_takeEntryPost hentries he, and_comm]

theorem tagsDistinct_takePost {s : State} (h : s.tagsDistinct) {p : Poster} (hp : s.offers p) :
    (s.takePost p).tagsDistinct := by
  refine tagsDistinct_mono h ?_ fun n => ?_
  · simp only [← map_fst_standings]
    cases p with
    | slot n => rw [State.takePost, standings_takeSlotPost]
    | entry t =>
      obtain ⟨e, he, rfl, -⟩ := hp
      rw [State.takePost, standings_takeEntryPost ((nodup_liveTags_iff s).mp h.1).1 he]
      exact List.filter_sublist.map _
  · rw [slot_takePost]
    split <;> simp [Slot.cleared]

theorem outcomesAgree_takePost {s : State} (h : s.outcomesAgree) (p : Poster) : (s.takePost p).outcomesAgree := by
  intro n
  rw [slot_takePost]
  split
  · simp [Slot.cleared]
  · exact h n

theorem listsPosters_takePost {s : State} (h : s.tagsDistinct) (hout : s.outcomesAgree) {p : Poster}
    {ps : List Poster} (hps : s.listsPosters (p :: ps)) : (s.takePost p).listsPosters ps := by
  obtain ⟨hnodup, hexact⟩ := hps
  obtain ⟨hnot, hrest⟩ := List.nodup_cons.mp hnodup
  refine ⟨hrest, fun q => ?_⟩
  rw [offers_takePost h hout ((hexact p).mp List.mem_cons_self), ← hexact q, List.mem_cons]
  constructor
  · rintro hq
    exact ⟨fun heq => hnot (heq ▸ hq), .inr hq⟩
  · rintro ⟨hne, heq | hq⟩
    · exact absurd heq hne
    · exact hq

/-! ### Offers (R145) -/

/-- The first of the posters that have still to make their offers makes it. -/
theorem soundBut_offer {s : State} {p : Poster} {ps : List Poster} (h : s.soundBut (p :: ps)) :
    (s.offer p).soundBut ps := by
  have hp : s.offers p := (h.posters.2 p).mp List.mem_cons_self
  unfold State.offer
  split
  · rename_i hroom
    have hlen := length_completions_takePost h.outcomes hp
    have hnone : s.posters = [] := by
      by_contra hne
      exact absurd (h.full hne) (Nat.ne_of_lt hroom)
    refine ⟨tagsDistinct_takePost h.tags hp, outcomesAgree_takePost h.outcomes p, ?_, ?_, ?_⟩
    · simpa using listsPosters_takePost h.tags h.outcomes h.posters
    · rw [hlen]
      exact hroom
    · simp [hnone]
  · rename_i hroom
    refine ⟨h.tags, h.outcomes, ?_, h.capacity, fun _ => Nat.le_antisymm h.capacity (Nat.not_lt.mp hroom)⟩
    obtain ⟨hnodup, hexact⟩ := h.posters
    have hperm : (ps ++ (s.posters ++ [p])).Perm (p :: ps ++ s.posters) := by
      rw [← List.append_assoc]
      exact List.perm_append_singleton p (ps ++ s.posters)
    exact ⟨hperm.nodup_iff.mpr hnodup, fun q => hperm.mem_iff.trans (hexact q)⟩

theorem soundBut_offerEntries {s : State} (ts : List Tag) (h : s.soundBut (ts.map Poster.entry)) :
    (s.offerEntries ts).soundBut [] := by
  induction ts generalizing s with
  | nil => exact h
  | cons t ts ih => exact ih (soundBut_offer h)

/-- A slot that is neither FREE nor in ENDING enters ENDING and offers its record (R105). -/
theorem soundBut_endSlot {s : State} (h : s.soundBut []) {n : Fin 16} (hfree : (s.slot n).state ≠ .free)
    (hending : (s.slot n).state ≠ .ending) (o : SlotOutcome) : (s.endSlot n o).soundBut [] := by
  refine soundBut_offer ⟨tagsDistinct_mono h.tags (List.Sublist.refl _) fun m => ?_, fun m => ?_, ⟨?_, fun q => ?_⟩,
    h.capacity, h.full⟩
  · rw [slot_setSlot]
    split
    · rename_i hm
      simp [hm, hfree]
    · simp
  · rw [slot_setSlot]
    split
    · simp
    · exact h.outcomes m
  · exact List.nodup_cons.mpr ⟨fun hmem => hending ((h.posters.2 _).mp hmem), h.posters.1⟩
  · have hold := h.posters.2 q
    rw [List.nil_append] at hold
    change q ∈ Poster.slot n :: s.posters ↔ _
    rw [List.mem_cons, hold]
    cases q with
    | entry t => simp [State.offers, State.setSlot]
    | slot m => by_cases hm : m = n <;> simp [State.offers, hm]

theorem soundBut_cutSlot {s : State} (h : s.soundBut []) (n : Fin 16) (o : SlotOutcome) :
    (s.cutSlot n o).soundBut [] := by
  unfold State.cutSlot
  split
  case h_1 hst =>
    exact soundBut_endSlot (s := s.abandonSnapshot n) (soundBut_congr (s := s) rfl rfl rfl rfl h) (hst.trans_ne (by simp))
      (hst.trans_ne (by simp)) o
  case h_2 hst =>
    exact soundBut_endSlot (s := (s.leavePlan n).updateClaimed _ _) (soundBut_congr (s := s) rfl rfl rfl rfl h)
      (hst.trans_ne (by simp)) (hst.trans_ne (by simp)) o
  all_goals exact h

end Sys2Proof.Machine

/-! PROOFS. The live requests and the waiting posters over every command and event, and O60. -/

namespace Sys2Proof.Machine

/-- The invariant of O60. -/
def State.requestsKept (s : State) : Prop := s.jobsSound ∧ s.requestsSound

theorem requestsKept_iff (s : State) : s.requestsKept ↔ s.jobsSound ∧ s.soundBut [] := by
  rw [← requestsSound_iff]
  exact ⟨fun h => ⟨h.1, h.2, h.1.1⟩, fun h => ⟨h.1, h.2.1⟩⟩

/-- The invariant reads the slots, the jobs, the standings of the entries, the waiting posters and the number of the
records. -/
theorem requestsKept_of_same {s t : State} (hs : t.slots = s.slots) (hj : t.jobKeys = s.jobKeys)
    (hq : t.standings = s.standings) (hp : t.posters = s.posters)
    (hc : t.completions.length = s.completions.length) (h : s.requestsKept) : t.requestsKept := by
  rw [requestsKept_iff] at h ⊢
  exact ⟨jobsSound_congr hs hj h.1, soundBut_congr hq hs hp hc h.2⟩

/-- What leaves the slots, the jobs, the queue, the posters and the records as they were. -/
theorem requestsKept_of_queue {s t : State} (hs : t.slots = s.slots) (hj : t.jobs = s.jobs) (hq : t.queue = s.queue)
    (hp : t.posters = s.posters) (hc : t.completions = s.completions) (h : s.requestsKept) : t.requestsKept :=
  requestsKept_of_same hs (jobKeys_of_jobs hj) (standings_of_queue hq) hp (by rw [hc]) h

theorem requestsKept_startPass {s : State} (h : s.requestsKept) : s.startPass.requestsKept :=
  requestsKept_of_same (by simp) (jobKeys_of_jobs (by simp)) (by simp) (by simp) (by simp) h

theorem requestsKept_cutSlot {s : State} (h : s.requestsKept) (n : Fin 16) (o : SlotOutcome) :
    (s.cutSlot n o).requestsKept := by
  rw [requestsKept_iff] at h ⊢
  exact ⟨jobsSound_cutSlot h.1 n o, soundBut_cutSlot h.2 n o⟩

theorem requestsKept_cutSlots {s : State} (h : s.requestsKept) (o : SlotOutcome) (ns : List (Fin 16)) :
    (s.cutSlots o ns).requestsKept := by
  induction ns generalizing s with
  | nil => exact h
  | cons n ns ih => exact ih (requestsKept_cutSlot h n o)

/-! ### Requests accepted (R60 to R62) -/

theorem live_iff (s : State) (t : Tag) : s.live t = true ↔ t ∈ s.liveTags := by
  simp [State.live, mem_liveTags, mem_slotNumbers]

/-- A request is accepted under a tag that is neither 0 nor live (R61). -/
theorem tag_of_accepted {s : State} {q : Request} (h : s.checkRequest q = .accepted) :
    q.tag ≠ 0 ∧ q.tag ∉ s.liveTags := by
  rw [← live_iff]
  unfold State.checkRequest at h
  repeat' split at h
  all_goals cases h
  exact ⟨‹_›, ‹_›⟩

/-- A WAITING entry under a tag that is neither 0 nor live joins the queue. -/
theorem soundBut_append {s : State} (h : s.soundBut []) {e : Entry} (hzero : e.tag ≠ 0) (hlive : e.tag ∉ s.liveTags)
    (hwait : e.state = .waiting) : State.soundBut { s with queue := s.queue ++ [e] } [] where
  tags := by
    obtain ⟨hentries, hslots, hcross⟩ := (nodup_liveTags_iff s).mp h.tags.1
    rw [mem_liveTags, not_or] at hlive
    obtain ⟨hnoentry, hnoslot⟩ := hlive
    refine ⟨(nodup_liveTags_iff _).mpr ⟨?_, hslots, fun n hn => ?_⟩, ?_⟩
    · rw [List.map_append, List.nodup_append]
      refine ⟨hentries, List.nodup_singleton _, fun t ht t' ht' heq => ?_⟩
      obtain ⟨e', he', rfl⟩ := List.mem_map.mp ht
      exact hnoentry ⟨e', he', heq.trans (List.mem_singleton.mp ht')⟩
    · rw [List.map_append, List.mem_append, not_or]
      exact ⟨hcross n hn, fun htag => hnoslot ⟨n, hn, List.mem_singleton.mp htag⟩⟩
    · have hold := h.tags.2
      rw [mem_liveTags] at hold ⊢
      rintro (⟨e', he', htag⟩ | hslot)
      · rcases List.mem_append.mp he' with hmem | hnew
        · exact hold (.inl ⟨e', hmem, htag⟩)
        · exact hzero (List.mem_singleton.mp hnew ▸ htag)
      · exact hold (.inr hslot)
  outcomes := h.outcomes
  posters := by
    refine ⟨h.posters.1, fun p => (h.posters.2 p).trans ?_⟩
    cases p with
    | slot n => rfl
    | entry t => simp [offers_entry_iff, State.standings, Entry.standing, hwait]
  capacity := h.capacity
  full := h.full

theorem requestsKept_acceptRequest {s : State} (h : s.requestsKept) {q : Request}
    (hq : s.checkRequest q = .accepted) : (s.acceptRequest q).requestsKept := by
  obtain ⟨hzero, hlive⟩ := tag_of_accepted hq
  unfold State.acceptRequest
  split
  · exact h
  · rename_i m _
    rw [requestsKept_iff] at h
    refine requestsKept_startPass ((requestsKept_iff _).mpr ⟨h.1, ?_⟩)
    exact soundBut_append (e := s.newEntry q m) h.2 hzero hlive rfl

theorem requestsKept_submit {s : State} (h : s.requestsKept) : s.submit.1.requestsKept := by
  unfold State.submit State.offerRequest
  split
  · exact requestsKept_acceptRequest h ‹_›
  · exact h

/-! ### Requests withdrawn and rejected (R65 to R70, R86) -/

/-- What stands at one position of a list is replaced by something else. -/
theorem mem_set_iff {α : Type} {l : List α} {i : Nat} {a b x : α} (hi : l[i]? = some b) (hne : x ≠ b) :
    x ∈ l.set i a ↔ x = a ∨ x ∈ l := by
  obtain ⟨hlt, -⟩ := List.getElem?_eq_some_iff.mp hi
  constructor
  · exact fun hx => (List.mem_or_eq_of_mem_set hx).symm
  · rintro (rfl | hx)
    · exact List.mem_set hlt x
    · obtain ⟨k, hk⟩ := List.mem_iff_getElem?.mp hx
      have hik : i ≠ k := by
        rintro rfl
        exact hne (Option.some.inj (hk.symm.trans hi))
      exact List.mem_iff_getElem?.mpr ⟨k, by rw [List.getElem?_set_ne hik, hk]⟩

theorem queue_setEntryState {s : State} {i : Nat} {e : Entry} (hi : s.queue[i]? = some e) (st : EntryState) :
    (s.setEntryState i st).queue = s.queue.set i { e with state := st } := by
  simp [State.setEntryState, List.modify_eq_set, hi]

/-- A WAITING entry that takes another state is a poster that has still to make its offer (R145). -/
theorem soundBut_setEntryState {s : State} (h : s.soundBut []) {i : Nat} {e : Entry} (hi : s.queue[i]? = some e)
    (hwait : e.state = .waiting) {st : EntryState} (hst : st ≠ .waiting) :
    (s.setEntryState i st).soundBut [.entry e.tag] := by
  have hget : s.standings[i]? = some (e.tag, true) := by simp [State.standings, hi, Entry.standing, hwait]
  have hstandings : (s.setEntryState i st).standings = s.standings.set i (e.tag, false) := by
    rw [State.standings, queue_setEntryState hi, List.map_set]
    simp [State.standings, Entry.standing, beq_false_of_ne hst]
  have htags : (s.setEntryState i st).queue.map Entry.tag = s.queue.map Entry.tag := map_modify_eq s.queue i fun _ => rfl
  have hnodup : (s.standings.map Prod.fst).Nodup := by
    rw [map_fst_standings]
    exact ((nodup_liveTags_iff s).mp h.tags.1).1
  have hnot : Poster.entry e.tag ∉ s.posters := by
    have hexact := h.posters.2 (.entry e.tag)
    rw [List.nil_append, offers_entry_iff] at hexact
    rw [hexact]
    intro hmem
    have := List.inj_on_of_nodup_map hnodup hmem (List.mem_of_getElem? hget) rfl
    simp at this
  refine ⟨tagsDistinct_mono h.tags (by rw [htags]) fun n hn => ⟨hn, rfl⟩, h.outcomes, ⟨?_, fun p => ?_⟩, h.capacity,
    h.full⟩
  · exact List.nodup_cons.mpr ⟨hnot, h.posters.1⟩
  · have hexact := h.posters.2 p
    rw [List.nil_append] at hexact
    change p ∈ Poster.entry e.tag :: s.posters ↔ _
    rw [List.mem_cons, hexact]
    cases p with
    | slot n => simp [State.offers, State.slot]
    | entry t =>
      rw [offers_entry_iff, offers_entry_iff, hstandings, mem_set_iff hget (by simp)]
      simp

theorem requestsKept_offer {s : State} {p : Poster} (hj : s.jobsSound) (h : s.soundBut [p]) :
    (s.offer p).requestsKept :=
  (requestsKept_iff _).mpr ⟨jobsSound_offer hj p, soundBut_offer h⟩

theorem requestsKept_reject {s : State} (h : s.requestsKept) {i : Nat} {e : Entry} (hi : s.queue[i]? = some e)
    (hwait : e.state = .waiting) (r : RejectReason) : (s.reject i e r).requestsKept := by
  rw [requestsKept_iff] at h
  exact requestsKept_offer (s := s.setEntryState i (.rejecting r)) h.1
    (soundBut_setEntryState h.2 hi hwait (by simp))

theorem requestsKept_withdraw {s : State} (h : s.requestsKept) {i : Nat} {e : Entry} (hi : s.queue[i]? = some e)
    (hwait : e.state = .waiting) : (s.withdraw i e.tag).requestsKept := by
  rw [requestsKept_iff] at h
  refine requestsKept_offer (jobsSound_congr (by simp) (jobKeys_of_jobs (by simp)) h.1) ?_
  exact soundBut_congr (by simp) (by simp) (by simp) (by simp)
    (soundBut_setEntryState h.2 hi hwait (st := .withdrawn) (by simp))

/-- The lookup of a tag finds an entry that bears it. -/
theorem tag_of_entryIndex {s : State} {t : Tag} {i : Nat} {e : Entry} (hi : s.entryIndex t = some i)
    (he : s.queue[i]? = some e) : e.tag = t := by
  obtain ⟨hlt, htag, -⟩ := List.findIdx?_eq_some_iff_getElem.mp hi
  obtain ⟨_, rfl⟩ := List.getElem?_eq_some_iff.mp he
  simpa using htag

theorem requestsKept_cancelTag {s : State} (h : s.requestsKept) (t : Tag) : (s.cancelTag t).1.requestsKept := by
  unfold State.cancelTag
  split
  · exact h
  · split
    · rename_i i hindex
      split
      · rename_i e he
        split
        · rename_i hwait
          rw [← tag_of_entryIndex hindex he]
          exact requestsKept_withdraw h he hwait
        · exact h
      · exact h
    · split
      · split
        · exact requestsKept_cutSlot h _ _
        · exact h
      · exact h

/-- Every WAITING entry withdrawn is a poster that has still to make its offer (R70, R145). -/
theorem soundBut_withdrawAll {s : State} (h : s.soundBut []) :
    s.withdrawAll.soundBut (s.waitingTags.map Poster.entry) := by
  obtain ⟨hentries, -, -⟩ := (nodup_liveTags_iff s).mp h.tags.1
  have hstandings : s.withdrawAll.standings = s.standings.map fun p => (p.1, false) := by
    simp only [State.standings, State.withdrawAll, List.map_map]
    refine List.map_congr_left fun e _ => ?_
    by_cases hwait : e.state = .waiting <;> simp [Entry.standing, hwait]
  have htags : s.withdrawAll.queue.map Entry.tag = s.queue.map Entry.tag := by
    rw [← map_fst_standings, hstandings, ← map_fst_standings, List.map_map]
    rfl
  have hwaiting (t : Tag) : t ∈ s.waitingTags ↔ (t, true) ∈ s.standings := by
    simp [State.waitingTags, State.standings, Entry.standing, and_assoc, and_left_comm, and_comm]
  have hwaitNodup : s.waitingTags.Nodup := (List.filter_sublist.map _).nodup hentries
  have hexact (t : Tag) : Poster.entry t ∈ s.posters ↔ (t, false) ∈ s.standings :=
    (h.posters.2 (.entry t)).trans (offers_entry_iff s t)
  refine ⟨tagsDistinct_mono h.tags (by rw [htags]) fun n hn => ⟨hn, rfl⟩, h.outcomes, ⟨?_, fun p => ?_⟩, h.capacity,
    h.full⟩
  · refine List.nodup_append.mpr ⟨hwaitNodup.map fun _ _ heq => Poster.entry.inj heq, h.posters.1, ?_⟩
    rintro _ hp _ hold rfl
    obtain ⟨t, ht, rfl⟩ := List.mem_map.mp hp
    rw [← map_fst_standings] at hentries
    have := List.inj_on_of_nodup_map hentries ((hwaiting t).mp ht) ((hexact t).mp hold) rfl
    simp at this
  · rw [List.mem_append]
    change _ ∨ p ∈ s.posters ↔ _
    cases p with
    | slot n =>
      have hslot := h.posters.2 (.slot n)
      rw [List.nil_append] at hslot
      simp [hslot, State.offers, State.slot]
    | entry t =>
      rw [hexact, offers_entry_iff, hstandings]
      simp [hwaiting, or_comm]

theorem jobsSound_offerEntries {s : State} (h : s.jobsSound) (ts : List Tag) : (s.offerEntries ts).jobsSound := by
  induction ts generalizing s with
  | nil => exact h
  | cons t ts ih => exact ih (jobsSound_offer h _)

theorem requestsKept_cancelAll {s : State} (h : s.requestsKept) : s.cancelAll.1.requestsKept := by
  have hoffered : (s.withdrawAll.offerEntries s.waitingTags).requestsKept := by
    rw [requestsKept_iff] at h ⊢
    exact ⟨jobsSound_offerEntries (s := s.withdrawAll) h.1 _, soundBut_offerEntries _ (soundBut_withdrawAll h.2)⟩
  have hcut := requestsKept_cutSlots hoffered .cancelled slotNumbers
  unfold State.cancelAll
  dsimp only
  split
  · exact hcut
  · exact requestsKept_startPass hcut

/-! ### Reading completion records (R148) -/

/-- The place that POP frees takes the oldest waiting poster's post, or stays free where none waits. -/
theorem requestsKept_popRecord {s : State} (h : s.requestsKept) : s.popRecord.1.requestsKept := by
  rw [requestsKept_iff] at h
  obtain ⟨hj, htags, hout, hposters, hcap, hfull⟩ := h
  unfold State.popRecord
  split
  · exact (requestsKept_iff s).mpr ⟨hj, htags, hout, hposters, hcap, hfull⟩
  · rename_i r rest hcomp
    rw [hcomp, List.length_cons] at hcap hfull
    dsimp only
    split
    · rename_i hnone
      exact (requestsKept_iff _).mpr ⟨hj, htags, hout, hposters, Nat.le_of_succ_le hcap, fun hne => absurd hnone hne⟩
    · rename_i p ps hps
      have hlist : s.listsPosters (p :: ps) := by simpa [hps] using hposters
      have hp : s.offers p := (hlist.2 p).mp List.mem_cons_self
      have hlen : rest.length + 1 = 16 := hfull (by simp [hps])
      set u : State := { s with completions := rest, posters := ps }
      have hcount : (u.takePost p).completions.length = 16 := (length_completions_takePost (s := u) hout hp).trans hlen
      have hleft : (u.takePost p).posters = ps := by simp [u]
      refine (requestsKept_iff _).mpr ⟨jobsSound_takePost (s := u) hj p, tagsDistinct_takePost (s := u) htags hp,
        outcomesAgree_takePost (s := u) hout p, ?_, hcount.le, fun _ => hcount⟩
      rw [hleft]
      exact listsPosters_takePost (s := u) htags hout hlist

end Sys2Proof.Machine

/-! PROOFS. The live requests and the waiting posters over presentations, examinations, frame starts and the ends of jobs,
and over every step: O60. -/

namespace Sys2Proof.Machine

/-! ### Presentations (R30, R31) -/

theorem requestsKept_present {s : State} (h : s.requestsKept) : s.present.requestsKept := by
  unfold State.present
  split
  · exact requestsKept_of_queue rfl rfl rfl rfl rfl (requestsKept_acceptRequest h ‹_›)
  all_goals exact h

theorem requestsKept_completeWindow {s : State} (h : s.requestsKept) : s.completeWindow.requestsKept := by
  unfold State.completeWindow
  split
  · exact requestsKept_present h
  · exact h

theorem requestsKept_presentAgain {s : State} (h : s.requestsKept) : s.presentAgain.requestsKept := by
  unfold State.presentAgain
  split
  · exact requestsKept_present (s := { s with load := _ }) h
  · exact h

theorem requestsKept_serveLoad {s : State} (h : s.requestsKept) (stop : LoadEngine → Bool) (n : Nat) :
    (s.serveLoad stop n).requestsKept :=
  requestsKept_of_queue (by simp) (by simp) (by simp) (by simp) (by simp) h

theorem requestsKept_endDrain {s : State} (h : s.requestsKept) : s.endDrain.requestsKept := by
  have hserve := requestsKept_serveLoad h (fun l => l.fifo.isEmpty) (4 * s.load.fifo.length)
  unfold State.endDrain
  split
  · dsimp only
    split
    · split
      · exact hserve
      · exact requestsKept_completeWindow hserve
    · exact h
  · exact h

theorem requestsKept_endFill {s : State} (h : s.requestsKept) : s.endFill.requestsKept := by
  unfold State.endFill
  split
  · dsimp only
    split
    · exact requestsKept_completeWindow (requestsKept_serveLoad h _ _)
    · exact h
  · exact h

/-! ### Examinations (R76 to R89) -/

/-- The entry that the running pass examines is a WAITING entry of the queue (R76). -/
theorem examineNext_waiting (s : State) :
    s.examineNext = s ∨ ∃ i e, s.queue[i]? = some e ∧ e.state = .waiting ∧ s.examineNext = s.examine i e := by
  unfold State.examineNext
  split
  · split
    · exact .inl rfl
    · rename_i i hi
      obtain ⟨hlt, hexamine, -⟩ := List.findIdx?_eq_some_iff_getElem.mp hi
      obtain ⟨-, hwait⟩ : s.queue[i].due = true ∧ s.queue[i].state = .waiting := by
        simpa [Entry.toExamine] using hexamine
      rw [List.getElem?_eq_getElem hlt]
      exact .inr ⟨i, _, List.getElem?_eq_getElem hlt, hwait, rfl⟩
  · exact .inl rfl

/-- A start fills the slot for the entry, under its tag (R88). -/
theorem decideEntry_started (s : State) (i : Nat) (e : Entry) (b : Fin 8) (n : Fin 16) :
    (∃ r, s.decideEntry i e b n = s.reject i e r) ∨
      ∃ sl : Slot, sl.startsOver e ∧ sl.tag = e.tag ∧ s.decideEntry i e b n = s.startRegion i n sl := by
  unfold State.decideEntry
  split
  · exact .inl ⟨_, rfl⟩
  · split
    · split
      · exact .inl ⟨_, rfl⟩
      · split
        · exact .inl ⟨_, rfl⟩
        · exact .inr ⟨_, ⟨rfl, rfl, rfl, claims_union e.rect⟩, rfl, rfl⟩
    · exact .inr ⟨_, ⟨rfl, rfl, rfl, fun _ _ => rfl⟩, rfl, rfl⟩

theorem queue_startRegion (s : State) (i : Nat) (n : Fin 16) (sl : Slot) :
    (s.startRegion i n sl).queue = s.queue.eraseIdx i := by
  rw [startRegion_eq, queue_removeEntry]
  rfl

theorem slot_startRegion (s : State) (i : Nat) (n m : Fin 16) (sl : Slot) :
    (s.startRegion i n sl).slot m = if m = n then sl else s.slot m := by
  rw [startRegion_eq, slot_of_slots (s := s.claimedStart n sl) (by simp), slot_claimedStart]

/-- A started request is live in its slot instead of in the queue. -/
theorem tagsDistinct_startRegion {s : State} (h : s.tagsDistinct) {i : Nat} {e : Entry} (hi : s.queue[i]? = some e)
    {n : Fin 16} {sl : Slot} (htag : sl.tag = e.tag) : (s.startRegion i n sl).tagsDistinct := by
  obtain ⟨hentries, hslots, hcross⟩ := (nodup_liveTags_iff s).mp h.1
  have hqueue : (s.startRegion i n sl).queue = s.queue.filter fun e' => decide (e'.tag ≠ e.tag) := by
    rw [queue_startRegion]
    exact eraseIdx_eq_filter hentries hi
  have hmem : e.tag ∈ s.queue.map Entry.tag := List.mem_map_of_mem (List.mem_of_getElem? hi)
  have hsub : ((s.startRegion i n sl).queue.map Entry.tag).Sublist (s.queue.map Entry.tag) := by
    rw [hqueue]
    exact List.filter_sublist.map _
  refine ⟨(nodup_liveTags_iff _).mpr ⟨hsub.nodup hentries, fun m k hm hk heq => ?_, fun m hm hold => ?_⟩, fun hzero => ?_⟩
  · rw [slot_startRegion] at hm hk heq
    rw [slot_startRegion] at heq
    by_cases hmn : m = n <;> by_cases hkn : k = n <;> simp only [hmn, hkn, if_true, if_false] at hm hk heq
    · rw [hmn, hkn]
    · exact absurd (heq.symm.trans htag ▸ hmem) (hcross k hk)
    · exact absurd (heq.trans htag ▸ hmem) (hcross m hm)
    · exact hslots m k hm hk heq
  · rw [slot_startRegion] at hm hold
    by_cases hmn : m = n
    · rw [if_pos hmn, htag, hqueue] at hold
      obtain ⟨e', he', heq⟩ := List.mem_map.mp hold
      exact of_decide_eq_true (List.mem_filter.mp he').2 heq
    · rw [if_neg hmn] at hm hold
      exact hcross m hm (hsub.subset hold)
  · have hold := h.2
    rw [mem_liveTags] at hzero hold
    rcases hzero with ⟨e', he', hz⟩ | ⟨m, hm, hz⟩
    · exact hold (.inl (by simpa using hsub.subset (List.mem_map.mpr ⟨e', he', hz⟩)))
    · rw [slot_startRegion] at hm hz
      by_cases hmn : m = n
      · rw [if_pos hmn, htag] at hz
        exact hold (.inl ⟨e, List.mem_of_getElem? hi, hz⟩)
      · rw [if_neg hmn] at hm hz
        exact hold (.inr ⟨m, hm, hz⟩)

/-- A start of a WAITING entry into a FREE slot takes no poster away and brings none. -/
theorem listsPosters_startRegion {s : State} {ps : List Poster} (h : s.listsPosters ps) {i : Nat} {e : Entry}
    (hi : s.queue[i]? = some e) (hwait : e.state = .waiting) {n : Fin 16} (hn : (s.slot n).state = .free) {sl : Slot}
    (hsl : sl.state = .starting) : (s.startRegion i n sl).listsPosters ps := by
  refine ⟨h.1, fun p => (h.2 p).trans ?_⟩
  cases p with
  | slot m =>
    simp only [State.offers, slot_startRegion]
    by_cases hm : m = n <;> simp [hm, hn, hsl]
  | entry t =>
    simp only [State.offers, queue_startRegion]
    refine ⟨?_, fun ⟨e', he', hoffer⟩ => ⟨e', List.mem_of_mem_eraseIdx he', hoffer⟩⟩
    rintro ⟨e', he', htag, hstate⟩
    refine ⟨e', ?_, htag, hstate⟩
    obtain ⟨k, hk⟩ := List.mem_iff_getElem?.mp he'
    refine List.mem_eraseIdx_iff_getElem?.mpr ⟨k, ?_, hk⟩
    rintro rfl
    exact hstate (Option.some.inj (hk.symm.trans hi) ▸ hwait)

theorem requestsKept_startRegion {s : State} (h : s.requestsKept) {i : Nat} {e : Entry} (hi : s.queue[i]? = some e)
    (hwait : e.state = .waiting) {n : Fin 16} (hn : s.freeSlot = some n) {sl : Slot} (hsl : sl.startsOver e)
    (htag : sl.tag = e.tag) : (s.startRegion i n sl).requestsKept := by
  rw [requestsKept_iff] at h ⊢
  have hfree := state_of_freeSlot hn
  have hj : (s.startRegion i n sl).jobsSound := by
    rw [startRegion_eq]
    exact jobsSound_congr (by simp) (jobKeys_of_jobs (by simp)) (jobsSound_claimedStart h.1 hfree hsl)
  obtain ⟨-, htags, -, hposters, hcap, hfull⟩ := h
  have hp : (s.startRegion i n sl).posters = s.posters := by simp
  have hc : (s.startRegion i n sl).completions = s.completions := by simp
  refine ⟨hj, tagsDistinct_startRegion htags hi htag, hj.1, ?_, hc ▸ hcap, by rw [hp, hc]; exact hfull⟩
  rw [hp]
  exact listsPosters_startRegion hposters hi hwait hfree hsl.state

theorem requestsKept_examine {s : State} (h : s.requestsKept) {i : Nat} {e : Entry} (hi : s.queue[i]? = some e)
    (hwait : e.state = .waiting) : (s.examine i e).requestsKept := by
  have hreached : (s.reached i).requestsKept :=
    requestsKept_of_same (s := s) rfl rfl (standings_reached s i) rfl rfl h
  have hget : (s.reached i).queue[i]? = some { e with due := false } := by
    simp [State.reached, hi]
  rcases examine_cases s i e with hx | hx | ⟨b, n, hn, -, hx⟩
  · rw [hx]
    exact hreached
  · rw [hx]
    exact requestsKept_of_same (by simp) (jobKeys_of_jobs (by simp)) (by simp) (by simp) (by simp) hreached
  · rw [hx]
    rcases decideEntry_started (s.reached i) i e b n with ⟨r, hd⟩ | ⟨sl, hsl, htag, hd⟩
    · rw [hd]
      exact requestsKept_reject hreached hget hwait r
    · rw [hd]
      exact requestsKept_startRegion hreached hget hwait hn ⟨hsl.state, hsl.snapshotDone, hsl.outcome, hsl.claims⟩ htag

theorem requestsKept_examineNext {s : State} (h : s.requestsKept) : s.examineNext.requestsKept := by
  rcases examineNext_waiting s with hx | ⟨i, e, hi, hwait, hx⟩
  · rw [hx]
    exact h
  · rw [hx]
    exact requestsKept_examine h hi hwait

/-! ### Slots that change without their records (R95, R97, R98) -/

/-- What changes neither the tag of a slot nor whether it is FREE or in ENDING. -/
theorem requestsKept_of_slots {s t : State} (hj : t.jobsSound) (hq : t.queue = s.queue) (hp : t.posters = s.posters)
    (hc : t.completions = s.completions) (hfree : ∀ n, (t.slot n).state = .free ↔ (s.slot n).state = .free)
    (hending : ∀ n, (t.slot n).state = .ending ↔ (s.slot n).state = .ending)
    (htag : ∀ n, (t.slot n).tag = (s.slot n).tag) (h : s.requestsKept) : t.requestsKept := by
  rw [requestsKept_iff] at h ⊢
  obtain ⟨-, htags, -, hposters, hcap, hfull⟩ := h
  refine ⟨hj, tagsDistinct_mono htags (by rw [hq]) fun n hn => ⟨fun hs => hn ((hfree n).mpr hs), htag n⟩, hj.1,
    ⟨by rw [hp]; exact hposters.1, fun p => ?_⟩, hc ▸ hcap, by rw [hp, hc]; exact hfull⟩
  rw [hp, hposters.2 p]
  cases p with
  | slot n => exact (hending n).symm
  | entry t => simp only [State.offers, hq]

theorem advance_tag (c : Word) (sl : Slot) : (sl.advance c).tag = sl.tag := by
  unfold Slot.advance
  repeat' split
  all_goals rfl

theorem requestsKept_regionFrame {s : State} (h : s.requestsKept) : s.regionFrame.requestsKept := by
  unfold State.regionFrame
  split
  · have hadv : s.advanced.requestsKept :=
      requestsKept_of_slots (s := s) (jobsSound_advanced h.1) rfl rfl rfl
        (fun n => by rw [slot_advanced, advance_free_iff]) (fun n => by rw [slot_advanced, advance_ending_iff])
        (fun n => by rw [slot_advanced, advance_tag]) h
    exact requestsKept_of_queue (by simp [State.advanced]) (by simp [State.advanced, State.commitJobs])
      (by simp [State.advanced]) (by simp [State.advanced]) (by simp [State.advanced]) hadv
  · exact h

theorem requestsKept_deliverFrame {s : State} (h : s.requestsKept) (o : FrameOrder) :
    (s.deliverFrame o).requestsKept := by
  have ht : State.requestsKept
      (State.temperatureFrame { s with frame := ⟨some s.config.frameTime, false, s.frame.counter + 1⟩ }) :=
    requestsKept_of_queue (by simp) (by simp) (by simp) (by simp) (by simp) h
  unfold State.deliverFrame
  dsimp only
  cases o with
  | regionFirst =>
    exact requestsKept_of_queue (by simp) (by simp) (by simp) (by simp) (by simp) (requestsKept_regionFrame ht)
  | sequencerFirst =>
    have hp (u : State) (hu : u.requestsKept) : u.powerFrame.requestsKept :=
      requestsKept_of_queue (by simp) (by simp) (by simp) (by simp) (by simp) hu
    exact requestsKept_of_queue (by simp) (by simp) (by simp) (by simp) (by simp) (requestsKept_regionFrame (hp _ ht))

theorem requestsKept_endScan {s : State} (h : s.requestsKept) (o : FrameOrder) : (s.endScan o).requestsKept := by
  unfold State.endScan
  dsimp only
  split
  · exact requestsKept_deliverFrame (s := State.raise { s with scan := none } .frameLate) h o
  · exact h

theorem requestsKept_frameStart {s : State} (h : s.requestsKept) (o : FrameOrder) : (s.frameStart o).requestsKept := by
  unfold State.frameStart
  dsimp only
  split
  · exact requestsKept_deliverFrame (s := State.raise { s with scan := none } .frameLate) h o
  · exact requestsKept_deliverFrame (s := { s with scan := none }) h o

theorem requestsKept_settle {s : State} (h : s.requestsKept) : s.settle.requestsKept := by
  have hd : s.dischargeIfDue.requestsKept :=
    requestsKept_of_queue (by simp) (by simp) (by simp) (by simp) (by simp) h
  have hstop : s.dischargeIfDue.stopScanIfLeft.requestsKept := by
    unfold State.stopScanIfLeft
    split
    · exact hd
    · split
      · exact hd
      · exact requestsKept_endScan hd _
  exact requestsKept_of_same (by simp [State.settle]) (jobKeys_of_jobs (by simp [State.settle]))
    (by simp [State.settle]) (by simp [State.settle]) (by simp [State.settle]) hstop

/-! ### The ends of jobs (R95, R100, R101) -/

/-- The end of a snapshot sets a flag of its slot alone (R95). -/
theorem slot_endSnapshot (s : State) (n : Fin 16) :
    s.endSnapshot.slot n = s.slot n ∨ s.endSnapshot.slot n = { s.slot n with snapshotDone := true } := by
  unfold State.endSnapshot
  split
  · exact .inl rfl
  · rename_i j rest _
    split
    · have hserve : ∀ m, s.serveJob.slot m = s.slot m := slot_of_slots (by simp)
      have hslot := slot_setSlot s.serveJob j.slot n { s.serveJob.slot j.slot with snapshotDone := true }
      have hjobs (u : State) : State.slot { u with jobs := rest } n = u.slot n := rfl
      dsimp only
      rw [hjobs, hslot, hserve, hserve]
      split
      · rename_i hn
        exact .inr (by rw [hn])
      · exact .inl rfl
    · exact .inl rfl

theorem requestsKept_endSnapshot {s : State} (h : s.requestsKept) : s.endSnapshot.requestsKept := by
  refine requestsKept_of_slots (s := s) (jobsSound_endSnapshot h.1) (by simp) (by simp) (by simp) ?_ ?_ ?_ h
  all_goals
    intro n
    rcases slot_endSnapshot s n with hn | hn <;> rw [hn]

/-- A commit's slot is in COMMITTING as its record is offered (R94, R101). -/
theorem requestsKept_endCommit {s : State} (h : s.requestsKept) : s.endCommit.requestsKept := by
  have hj := jobsSound_endCommit h.1
  rw [requestsKept_iff] at h ⊢
  refine ⟨hj, ?_⟩
  unfold State.endCommit
  split
  · exact h.2
  · rename_i j rest hjobs
    split
    · rename_i hkind
      have hstate := committing_of_commit h.1 hjobs hkind
      refine soundBut_endSlot (soundBut_congr (standings_of_queue ?_) ?_ ?_ ?_ h.2) ?_ ?_ _
      case refine_5 | refine_6 => rw [slot_of_slots (s := s) (by simp [State.updateClaimed]), hstate]; simp
      all_goals simp [State.updateClaimed]
    · exact h.2

theorem requestsKept_quadAccess {s : State} (h : s.requestsKept) : s.quadAccess.requestsKept :=
  requestsKept_of_same (by simp) (jobKeys_quadAccess s) (standings_of_queue (by simp)) (by simp) (by simp) h

/-! ### Every command and event -/

theorem requestsKept_of_cleared {s : State} (hs : ∀ n, s.slot n = Slot.cleared) (hj : s.jobs = []) (hq : s.queue = [])
    (hp : s.posters = []) (hc : s.completions = []) : s.requestsKept := by
  have hlive : s.liveTags = [] := by simp [State.liveTags, hq, hs, Slot.cleared]
  refine ⟨(usesSound_of_cleared hs hj hq).1, by simp [hlive], by simp [hlive], by simp [hp], fun p => ?_, by simp [hc],
    fun hne => absurd hp hne⟩
  cases p <;> simp [hp, State.offers, hs, hq, Slot.cleared]

theorem requestsKept_softReset (s : State) : s.softReset.requestsKept :=
  requestsKept_of_cleared (fun n => Vector.getElem_replicate n.isLt) rfl rfl rfl rfl

theorem requestsKept_pinReset (s : State) : s.pinReset.requestsKept :=
  requestsKept_of_cleared (fun n => Vector.getElem_replicate n.isLt) rfl rfl rfl rfl

theorem requestsKept_commandEffect {s : State} (h : s.requestsKept) (code : Word) :
    (s.commandEffect code).1.requestsKept := by
  have hsame {t : State} (hs : t.slots = s.slots) (hj : t.jobs = s.jobs) (hq : t.standings = s.standings)
      (hp : t.posters = s.posters) (hc : t.completions = s.completions) : t.requestsKept :=
    requestsKept_of_same hs (jobKeys_of_jobs hj) hq hp (by rw [hc]) h
  unfold State.commandEffect
  split
  case h_1 => exact requestsKept_submit h
  case h_2 => exact requestsKept_cancelTag h _
  case h_3 => exact requestsKept_cancelAll h
  case h_4 => exact requestsKept_popRecord h
  case h_8 =>
    unfold State.tileSet
    dsimp only
    split
    · exact h
    · split
      · exact h
      · split <;> split
        case isTrue.isTrue | isFalse.isTrue => exact h
        all_goals exact requestsKept_startPass (s := s.updateClaimed _ _) h
  case h_11 =>
    unfold State.powerUp
    repeat' split
    case h_1 => exact hsame (by simp) (by simp) (by simp) (by simp) (by simp)
    case h_3.isTrue => exact requestsKept_startPass (s := { s with power := _ }) h
    all_goals exact h
  case h_13 =>
    unfold State.clearFault
    split
    · exact requestsKept_startPass (s := { s with power := _ }) h
    · exact h
  case h_15 => exact requestsKept_softReset s
  all_goals exact hsame (by simp) (by simp) (standings_of_queue (by simp)) (by simp) (by simp)

theorem requestsKept_commanded {s : State} (code : Word) {f : State → State × Result}
    (hf : ∀ u : State, u.requestsKept → (f u).1.requestsKept) (h : s.requestsKept) :
    (s.commanded code f).requestsKept :=
  hf { s with bus := { s.bus with command := code } } h

theorem requestsKept_writeRegister {s : State} (h : s.requestsKept) (r : Reg) (w : Word) :
    (s.writeRegister r w).requestsKept := by
  cases r with
  | command => exact requestsKept_commanded w (fun _ hu => requestsKept_commandEffect hu w) h
  | control =>
    simp only [State.writeRegister, State.writeControl]
    split
    · exact requestsKept_startPass (s := { s with bus := _ }) h
    · exact h
  | policy => exact requestsKept_startPass (s := { s with config := _ }) h
  | _ =>
    exact requestsKept_of_queue (by simp [State.writeRegister]) (by simp [State.writeRegister])
      (by simp [State.writeRegister]) (by simp [State.writeRegister]) (by simp [State.writeRegister]) h

theorem requestsKept_fallOfPgood {s : State} (h : s.requestsKept) : s.fallOfPgood.requestsKept := by
  unfold State.fallOfPgood
  dsimp only
  split
  case h_1 | h_2 =>
    refine requestsKept_cutSlots ?_ _ _
    exact h
  all_goals exact h

theorem requestsKept_riseOfPgood {s : State} (h : s.requestsKept) : s.riseOfPgood.requestsKept := by
  unfold State.riseOfPgood
  dsimp only
  split
  · exact requestsKept_startPass (s := State.raise _ _) h
  all_goals exact h

theorem requestsKept_expireFall {s : State} (h : s.requestsKept) : s.expireFall.requestsKept := by
  unfold State.expireFall
  split
  · split
    · exact h
    · exact requestsKept_of_same (by simp) (jobKeys_of_jobs (by simp)) (by simp) (by simp) (by simp) h
  · exact h

theorem requestsKept_endConversion {s : State} (h : s.requestsKept) (c : BitVec 10) :
    (s.endConversion c).requestsKept := by
  unfold State.endConversion
  dsimp only
  repeat' split
  · exact requestsKept_startPass (s := State.raise _ _) h
  all_goals exact h

theorem requestsKept_endCheck {s : State} (h : s.requestsKept) : s.endCheck.requestsKept := by
  unfold State.endCheck
  repeat' split
  · exact h
  · exact requestsKept_startPass (s := State.raise _ _) h
  · exact h

theorem requestsKept_expireFrameTimer {s : State} (h : s.requestsKept) (o : FrameOrder) :
    (s.expireFrameTimer o).requestsKept := by
  unfold State.expireFrameTimer
  repeat' split
  · exact h
  · exact h
  · exact requestsKept_deliverFrame h o

theorem requestsKept_scanEnds {s : State} (h : s.requestsKept) (o : FrameOrder) : (s.scanEnds o).requestsKept := by
  unfold State.scanEnds
  split
  · exact requestsKept_endScan h o
  · exact h

theorem requestsKept_reachIdle {s : State} (h : s.requestsKept) (o : FrameOrder) : (s.reachIdle o).requestsKept := by
  unfold State.reachIdle
  split
  · exact requestsKept_frameStart h o
  · exact h

theorem requestsKept_reachDischarge {s : State} (h : s.requestsKept) : s.reachDischarge.requestsKept := by
  unfold State.reachDischarge
  split
  · exact requestsKept_frameStart h _
  · exact h

theorem requestsKept_reachPeriod {s : State} (h : s.requestsKept) (o : FrameOrder) :
    (s.reachPeriod o).requestsKept := by
  unfold State.reachPeriod
  split
  · exact requestsKept_frameStart h o
  · exact h

/-- The effect of every command and event that has a route keeps the invariant. Those not named leave the slots, the
jobs, the queue, the posters and the records alone. -/
theorem requestsKept_effect (s : State) (c : Instr) (hc : route c ≠ none) (h : s.requestsKept) :
    (s.effect c).requestsKept := by
  cases hw : registerWriteOf c with
  | some rw => exact effect_of_registerWriteOf hw s ▸ requestsKept_writeRegister h rw.1 rw.2
  | none =>
    cases c with
    | pgoodRise => exact requestsKept_riseOfPgood h
    | pgoodFall => exact requestsKept_fallOfPgood h
    | frameTimerExpiry o => exact requestsKept_expireFrameTimer h o
    | frameStart o => exact requestsKept_frameStart h o
    | scanEnd o => exact requestsKept_scanEnds h o
    | fallTimerExpiry => exact requestsKept_expireFall h
    | idleCountReached o => exact requestsKept_reachIdle h o
    | dischargeCountReached => exact requestsKept_reachDischarge h
    | periodicConversionRequest o => exact requestsKept_reachPeriod h o
    | conversionEnd c => exact requestsKept_endConversion h c
    | checkEnd => exact requestsKept_endCheck h
    | quadAccess => exact requestsKept_quadAccess h
    | drainEnd => exact requestsKept_endDrain h
    | fillEnd => exact requestsKept_endFill h
    | snapshotEnd => exact requestsKept_endSnapshot h
    | commitEnd => exact requestsKept_endCommit h
    | entryExamination => exact requestsKept_examineNext h
    | autoPresentationRetry => exact requestsKept_presentAgain h
    | unknownCommand code => exact requestsKept_commanded (f := State.noCommand) code (fun _ hu => hu) h
    | vddApplied | pinReset | resetRelease | busAccessInReset => simp [route] at hc
    | _ =>
      exact requestsKept_of_queue (by simp_all [State.effect, registerWriteOf])
        (by simp_all [State.effect, registerWriteOf]) (by simp_all [State.effect, registerWriteOf])
        (by simp_all [State.effect, registerWriteOf]) (by simp_all [State.effect, registerWriteOf]) h

/-! ### Every step -/

/-- The pins that act on the part as a whole reset it, leave the blocks undefined, or leave the requests alone. -/
theorem requestsKept_of_no_route {s : State} {c : Instr} (hc : route c = none)
    (h : s.phase = .undefined ∨ s.requestsKept) :
    (s.effect c).phase = .undefined ∨ (s.effect c).requestsKept := by
  cases c with
  | pinReset => exact .inr (requestsKept_pinReset s)
  | vddApplied =>
    simp only [State.effect, State.applyVdd]
    split
    · exact .inr (requestsKept_pinReset _)
    all_goals exact .inl rfl
  | resetRelease =>
    simp only [State.effect, State.releaseReset]
    split
    · exact .inl rfl
    · rename_i hp
      exact .inr (h.resolve_left (by simp [hp]))
    · exact h
  | busAccessInReset a =>
    simp only [State.effect, State.accessInReset]
    split
    · exact .inl rfl
    all_goals exact h
  | _ => simp [route] at hc

/-- Settles O60: in a step the part is reset, or its blocks are undefined, or it takes a command or event whose effect and
what follows keep the invariant, or the requests are left alone. -/
theorem requestsStaySound : Obligations.RequestsStaySound := by
  intro s t hs h
  change t.phase = .undefined ∨ t.requestsKept
  change s.phase = .undefined ∨ s.requestsKept at hs
  unfold step at h
  split at h
  · cases h
    exact hs.imp (by simp) (requestsKept_of_queue (by simp) (by simp) (by simp) (by simp) (by simp))
  · rename_i c rest _
    rcases exec_cases c { s with pending := rest } with
      ⟨hc, hx⟩ | ⟨hp, hc, hx⟩ | hx | hx | ⟨-, b, hx⟩ | ⟨-, hx⟩ | ⟨-, b, hx⟩ <;>
      (rw [hx] at h; cases h)
    · exact requestsKept_of_no_route hc hs
    · have hkept : s.requestsKept := hs.resolve_left fun hu => by
        rw [show s.phase = .running from hp] at hu
        cases hu
      exact .inr (requestsKept_settle (requestsKept_effect { s with pending := rest } c hc hkept))
    · exact hs
    · exact hs
    · exact hs
    · exact .inl rfl
    · exact .inl rfl

end Sys2Proof.Machine

/-! PROOFS. SUBMIT (R61 to R63) and CANCEL (R67, Table 4.5): what the checks and the tag lookup answer, and each command's
step as its effect in a part that takes it. -/

namespace Sys2Proof.Machine

/-! ### SUBMIT -/

theorem modeNumber_eq_none {m : BitVec 4} (h : 8 ≤ m.toNat) : modeNumber m = none := dif_neg (Nat.not_lt.mpr h)

theorem modeNumber_eq_some {b : BitVec 4} {m : Fin 8} (h : b.toNat = m.val) : modeNumber b = some m := by
  have hlt : b.toNat < 8 := h ▸ m.isLt
  exact (dif_pos hlt).trans (congrArg some (Fin.ext h))

/-- A request that passes the first three checks of Table 4.2 is answered by its mode. -/
theorem checkRequest_of_legal (s : State) {q : Request} (hzero : q.tag ≠ 0) (hafter : q.afterTag ≠ q.tag)
    (hlegal : q.rect.legal s.config.panelW s.config.panelH = true) :
    s.checkRequest q =
      match modeNumber q.mode with
      | none => .badMode
      | some m =>
        if (s.mode m).state ≠ .ready then .modeNotReady
        else if q.tag ∈ s.liveTags then .tagInUse
        else if 8 ≤ s.queue.length then .queueFull
        else .accepted := by
  rw [State.checkRequest, if_neg hzero, if_neg hafter, if_neg (by simp [hlegal])]
  cases modeNumber q.mode with
  | none => rfl
  | some m =>
    simp only [live_iff]
    rfl

/-- SUBMIT's step: its effect, its answer, and what follows. -/
theorem exec_submit {s : State} (h : s.takes) :
    exec .submit s = .next (s.submit.1.answered 0x01 s.submit.2).settle := by
  rw [exec_of_takes h (by simp [route]), State.effect, commanded_submit]

theorem submit_of_refused {s : State} (h : s.checkRequest s.argRequest ≠ .accepted) :
    s.submit = (s, s.checkRequest s.argRequest) := by
  unfold State.submit State.offerRequest
  split
  · exact absurd ‹_› h
  · rfl

theorem newEntry_eq (s : State) (q : Request) (m : Fin 8) :
    s.newEntry q m =
      { tag := q.tag, rect := q.rect, mode := m, notify := q.notify, noPromote := q.noPromote,
        afterTag := if q.afterTag ∈ s.liveTags then q.afterTag else 0, state := .waiting, due := false } := by
  simp only [State.newEntry, live_iff]

/-- Settles O30, by the order of the checks, and by whether the request is accepted: the pass that an accepted one starts
has the new entry to examine, so that nothing follows in the step. -/
theorem submitAnswers : Obligations.SubmitAnswers := by
  refine ⟨fun s q => ⟨fun h => if_pos h, fun h ha => ?_, fun h ha hl => ?_,
      fun h ha hl => ⟨fun hm => ?_, fun m hm => ?_⟩⟩,
    fun s h hr => ?_, fun s h hr => ?_⟩
  · rw [State.checkRequest, if_neg h, if_pos ha]
  · rw [State.checkRequest, if_neg h, if_neg ha, if_pos (by simp [hl])]
  · rw [checkRequest_of_legal s h ha hl, modeNumber_eq_none hm]
  · rw [checkRequest_of_legal s h ha hl, modeNumber_eq_some hm]
  · rw [exec_submit h, submit_of_refused hr]
    exact congrArg _ (settle_of_same h.1.2 rfl rfl rfl rfl rfl)
  · obtain ⟨m, hval, hm⟩ := modeNumber_of_accepted hr
    refine ⟨m, hval, ?_⟩
    have hsubmit : s.submit =
        (State.startPass { s with queue := s.queue ++ [s.newEntry s.argRequest m] }, .accepted) := by
      simp only [State.submit, State.offerRequest, hr, State.acceptRequest, hm]
    rw [exec_submit h, hsubmit, startPass_answered, newEntry_eq]
    refine congrArg _ (settle_of_settled (settled_startPass_append (s := s.answered 0x01 .accepted) ?_ rfl))
    exact (settled_congr rfl rfl rfl rfl rfl).trans h.1.2

/-! ### CANCEL -/

/-- CANCEL's step: its effect, its answer, and what follows. -/
theorem exec_cancel {s : State} (h : s.takes) {u : State} {r : Result} (hc : s.cancelTag s.argTag = (u, r)) :
    exec .cancel s = .next (u.answered 0x02 r).settle := by
  rw [exec_of_takes h (by simp [route]), State.effect, commanded_cancel, State.cancel, hc]

theorem exec_cancel_of_refused {s : State} (h : s.takes) {r : Result} (hc : s.cancelTag s.argTag = (s, r)) :
    exec .cancel s = .next (s.answered 0x02 r) := by
  rw [exec_cancel h hc]
  exact congrArg _ (settle_of_same h.1.2 rfl rfl rfl rfl rfl)

theorem entryIndex_eq_none {s : State} {t : Tag} (h : ∀ e ∈ s.queue, e.tag ≠ t) : s.entryIndex t = none :=
  List.findIdx?_eq_none_iff.mpr fun e he => by simpa using h e he

/-- The lookup finds the first entry that bears the tag. -/
theorem entryIndex_eq_some {s : State} {t : Tag} {i : Nat} {e : Entry} (he : s.queue[i]? = some e) (htag : e.tag = t)
    (hfirst : ∀ j e', j < i → s.queue[j]? = some e' → e'.tag ≠ t) : s.entryIndex t = some i := by
  obtain ⟨hlt, rfl⟩ := List.getElem?_eq_some_iff.mp he
  refine List.findIdx?_eq_some_iff_getElem.mpr ⟨hlt, by simpa using htag, fun j hj => ?_⟩
  simpa using hfirst j _ hj (List.getElem?_eq_getElem (hj.trans hlt))

theorem slotOfTag_eq_none {s : State} {t : Tag} (h : ∀ n, (s.slot n).state ≠ .free → (s.slot n).tag ≠ t) :
    s.slotOfTag t = none :=
  List.find?_eq_none.mpr fun n _ => by simpa using h n

theorem slotNumbers_eq_finRange : slotNumbers = List.finRange 16 := by decide

/-- The lookup finds the lowest-numbered slot, not FREE, that bears the tag. -/
theorem slotOfTag_eq_some {s : State} {t : Tag} {n : Fin 16} (hlive : (s.slot n).state ≠ .free)
    (htag : (s.slot n).tag = t) (hfirst : ∀ n', n' < n → (s.slot n').state = .free ∨ (s.slot n').tag ≠ t) :
    s.slotOfTag t = some n := by
  rw [State.slotOfTag, slotNumbers_eq_finRange, List.find?_eq_some_iff_getElem]
  refine ⟨by simp [hlive, htag], n.val, by simp, by simp, fun j hj => ?_⟩
  rcases hfirst ⟨j, hj.trans n.isLt⟩ hj with hfree | hother
  · simp [hfree]
  · simp [hother]

theorem cancelTag_of_not_live {s : State} {t : Tag} (h : t = 0 ∨ t ∉ s.liveTags) :
    s.cancelTag t = (s, .notFound) := by
  by_cases hzero : t = 0
  · exact if_pos hzero
  · have hnot := h.resolve_left hzero
    rw [mem_liveTags, not_or] at hnot
    have hentry : s.entryIndex t = none := entryIndex_eq_none fun e he htag => hnot.1 ⟨e, he, htag⟩
    have hslot : s.slotOfTag t = none := slotOfTag_eq_none fun n hn htag => hnot.2 ⟨n, hn, htag⟩
    simp only [State.cancelTag, if_neg hzero, hentry, hslot]

theorem cancelTag_of_entry {s : State} {t : Tag} (hzero : t ≠ 0) {i : Nat} {e : Entry} (hi : s.entryIndex t = some i)
    (he : s.queue[i]? = some e) :
    s.cancelTag t = if e.state = .waiting then (s.withdraw i t, .accepted) else (s, .tooLate) := by
  simp only [State.cancelTag, if_neg hzero, hi, he]

theorem cancelTag_of_slot {s : State} {t : Tag} (hzero : t ≠ 0) (hentry : s.entryIndex t = none) {n : Fin 16}
    (hn : s.slotOfTag t = some n) :
    s.cancelTag t = if (s.slot n).active then (s.cutSlot n .cancelled, .accepted) else (s, .tooLate) := by
  simp only [State.cancelTag, if_neg hzero, hentry, hn]

theorem active_iff (sl : Slot) : sl.active = true ↔ sl.state = .starting ∨ sl.state = .driving := by
  simp [Slot.active]

/-- Settles O31, by where the lookup finds the tag. -/
theorem cancelAnswers : Obligations.CancelAnswers := by
  intro s h
  refine ⟨fun hnot => exec_cancel_of_refused h (cancelTag_of_not_live hnot), fun i e hzero he htag hfirst => ?_,
    fun n hzero hnoentry hlive htag hfirst => ?_⟩
  · have hcancel := cancelTag_of_entry hzero (entryIndex_eq_some he htag hfirst) he
    constructor
    · intro hstate
      exact exec_cancel_of_refused h (hcancel.trans (if_neg hstate))
    · intro hstate
      exact ⟨s.setEntryState i .withdrawn, queue_setEntryState he .withdrawn, rfl,
        exec_cancel h (hcancel.trans (if_pos hstate))⟩
  · have hcancel := cancelTag_of_slot hzero (entryIndex_eq_none hnoentry) (slotOfTag_eq_some hlive htag hfirst)
    constructor
    · intro hactive
      exact exec_cancel h (hcancel.trans (if_pos ((active_iff _).mpr hactive)))
    · intro hstate
      refine exec_cancel_of_refused h (hcancel.trans (if_neg ?_))
      rw [active_iff]
      rcases hstate with hst | hst <;> simp [hst]

end Sys2Proof.Machine

/-! PROOFS. Posts (R71, R106, R145, R146): what a list of offers does to the records, the waiting posters, the queue and the
flags, said of one offer and of offers made one after another. -/

namespace Sys2Proof.Machine

/-! ### Records, removals and passes as plain updates -/

/-- An entry whose after-tag is cleared if it is one of the tags (R64). -/
def Entry.releasedBy (ts : List Tag) (e : Entry) : Entry :=
  { e with afterTag := if e.afterTag ∈ ts then 0 else e.afterTag }

/-- The record of an outcome other than DONE joins, raises COMPLETE and clears the after-tags that name its tag. -/
theorem addRecord_of_not_done (s : State) {r : Record} (h : r.outcome ≠ .done) (b : Bool) :
    s.addRecord r b =
      { s with
        completions := s.completions ++ [r], events := s.events ||| 1,
        queue := s.queue.map (Entry.releasedBy [r.tag]) } := by
  have hmap : (fun e : Entry => if e.afterTag = r.tag then { e with afterTag := 0 } else e)
      = Entry.releasedBy [r.tag] := by
    funext e
    by_cases he : e.afterTag = r.tag <;> simp [Entry.releasedBy, he]
  simp only [State.addRecord, h, decide_false, Bool.false_and, Bool.false_eq_true, if_false, State.clearAfterTags, hmap]
  rfl

/-- A removal from a full queue raises QROOM, and a presentation is owed where the engine waits for it (R71, R72). -/
theorem removeEntry_flags (s : State) {i : Nat} (hi : i < s.queue.length) :
    (s.removeEntry i).events = (if s.queue.length = 8 then s.events ||| 2 else s.events) ∧
      (s.removeEntry i).load = if s.queue.length = 8 ∧ s.load.state = .autoPending then
          { s.load with retriesOwed := s.load.retriesOwed + 1 }
        else s.load := by
  have hlen : (s.queue.eraseIdx i).length + 1 = s.queue.length := List.length_eraseIdx_add_one hi
  have hplaces : Config.queuePlaces = 8 := rfl
  by_cases hfull : s.queue.length = 8
  · by_cases hauto : s.load.state = .autoPending <;>
      simp [State.removeEntry, hlen, hplaces, hfull, hauto, State.raise, Event.place]
  · simp [State.removeEntry, hplaces, hfull]

theorem passInProgress_startPass (s : State) : s.startPass.dispatcher.passInProgress = true := by
  unfold State.startPass
  split
  · assumption
  · rfl

@[simp] theorem plainQueue_startPass (s : State) : s.startPass.plainQueue = s.plainQueue := by
  unfold State.startPass
  split
  · rfl
  · simp [State.plainQueue, State.markDue, Entry.plain, Function.comp_def]

theorem length_plainQueue (s : State) : s.plainQueue.length = s.queue.length := by simp [State.plainQueue]

/-! ### What offers made one after another leave -/

/-- A record with the poster that offers it. -/
structure Post where
  poster : Poster
  record : Record

/-- Those of the offers that find room in the Completion Queue (R145). -/
def State.admits {α : Type} (s : State) (ps : List α) : List α := ps.take (16 - s.completions.length)

/-- A queue after the posts of a list have been taken: their entries are gone, and the after-tags that name one of their
requests are cleared (R64, R71). -/
def queueAfter (ps : List Post) (q : List Entry) : List Entry :=
  (q.filter fun e => decide (Poster.entry e.tag ∉ ps.map Post.poster)).map
    (Entry.releasedBy (ps.map fun p => p.record.tag))

/-- The queue has fallen below 8 entries (R72). -/
abbrev State.fallsBelowFull (s t : State) : Prop := 8 ≤ s.queue.length ∧ t.queue.length < 8

/-- The second state is the first after the posters of a list have offered their records in its order, each record with an
outcome other than DONE. -/
structure Posted (s t : State) (ps : List Post) : Prop where
  completions : t.completions = s.completions ++ (s.admits ps).map Post.record
  posters : t.posters = s.posters ++ (ps.drop (16 - s.completions.length)).map Post.poster
  queue : t.plainQueue = queueAfter (s.admits ps) s.plainQueue
  events : t.events = s.events ||| (if s.admits ps = [] then 0 else 1) ||| (if s.fallsBelowFull t then 2 else 0)
  load : t.load = if s.fallsBelowFull t ∧ s.load.state = .autoPending then
      { s.load with retriesOwed := s.load.retriesOwed + 1 }
    else s.load
  idle : s.admits ps = [] → t.queue = s.queue ∧ t.dispatcher = s.dispatcher
  pass : s.dispatcher.passInProgress = true ∨ (∃ p ∈ s.admits ps, ∃ n, p.poster = .slot n) →
    t.dispatcher.passInProgress = true

theorem queueAfter_map (ps : List Post) (f : Entry → Entry) (q : List Entry) :
    queueAfter ps (q.map f) =
      (q.filter fun e => decide (Poster.entry (f e).tag ∉ ps.map Post.poster)).map
        (Entry.releasedBy (ps.map fun p => p.record.tag) ∘ f) := by
  rw [queueAfter, List.filter_map, List.map_map]
  rfl

theorem queueAfter_nil (q : List Entry) : queueAfter [] q = q := by
  have hid : Entry.releasedBy [] = id := by
    funext e
    simp [Entry.releasedBy]
  simp [queueAfter, hid]

/-- Posts taken one after another act on the queue one after another. -/
theorem queueAfter_append (as bs : List Post) (q : List Entry) :
    queueAfter (as ++ bs) q = queueAfter bs (queueAfter as q) := by
  have hreleased (ts us : List Tag) (e : Entry) :
      Entry.releasedBy (ts ++ us) e = Entry.releasedBy us (Entry.releasedBy ts e) := by
    by_cases hmem : e.afterTag ∈ ts <;> simp [Entry.releasedBy, hmem]
  simp only [queueAfter, List.filter_map, List.map_map, List.map_append, List.filter_filter]
  congr 1
  · funext e
    exact hreleased _ _ e
  · refine List.filter_congr fun e _ => ?_
    simp [Entry.releasedBy, Bool.and_comm]

theorem length_queueAfter_le (ps : List Post) (q : List Entry) : (queueAfter ps q).length ≤ q.length := by
  rw [queueAfter, List.length_map]
  exact List.length_filter_le _ _

theorem Posted.length_le {s t : State} {ps : List Post} (h : Posted s t ps) : t.queue.length ≤ s.queue.length := by
  rw [← length_plainQueue, ← length_plainQueue, h.queue]
  exact length_queueAfter_le _ _

/-- The room for the offers that follow is what the offers before them have left. -/
theorem Posted.admits_append {α : Type} {s t : State} {ps : List Post} (h : Posted s t ps) (as bs : List α)
    (has : as.length = ps.length) : s.admits (as ++ bs) = s.admits as ++ t.admits bs := by
  have hlen : t.completions.length = s.completions.length + min (16 - s.completions.length) ps.length := by
    simp [h.completions, State.admits]
  have hroom : 16 - s.completions.length - as.length = 16 - t.completions.length := by omega
  simp only [State.admits, List.take_append, hroom]

/-- COMPLETE and QROOM, raised twice over. -/
theorem or_flags {a b c d : Prop} [Decidable a] [Decidable b] [Decidable c] [Decidable d] (e : BitVec 10) :
    e ||| (if a then 0 else 1) ||| (if c then 2 else 0) ||| (if b then 0 else 1) ||| (if d then 2 else 0)
      = e ||| (if a ∧ b then 0 else 1) ||| (if c ∨ d then 2 else 0) := by
  simp only [BitVec.or_assoc]
  by_cases ha : a <;> by_cases hb : b <;> by_cases hc : c <;> by_cases hd : d <;> simp [ha, hb, hc, hd]

/-- Offers made one after another. -/
theorem Posted.trans {s t u : State} {as bs : List Post} (h₁ : Posted s t as) (h₂ : Posted t u bs) :
    Posted s u (as ++ bs) := by
  have hadmits := h₁.admits_append as bs rfl
  have hle₁ := h₁.length_le
  have hle₂ := h₂.length_le
  have hlen : t.completions.length = s.completions.length + min (16 - s.completions.length) as.length := by
    simp [h₁.completions, State.admits]
  have hroom : 16 - s.completions.length - as.length = 16 - t.completions.length := by omega
  have hfalls : s.fallsBelowFull u ↔ s.fallsBelowFull t ∨ t.fallsBelowFull u := by
    simp only [State.fallsBelowFull]
    omega
  refine ⟨?_, ?_, ?_, ?_, ?_, fun hidle => ?_, fun hpass => ?_⟩
  · rw [h₂.completions, h₁.completions, hadmits, List.map_append, List.append_assoc]
  · rw [h₂.posters, h₁.posters, List.drop_append, List.map_append, List.append_assoc, hroom]
  · rw [h₂.queue, h₁.queue, hadmits, queueAfter_append]
  · rw [h₂.events, h₁.events, hadmits]
    simp only [hfalls, List.append_eq_nil_iff]
    exact or_flags _
  · by_cases hst : s.fallsBelowFull t
    · have htu : ¬t.fallsBelowFull u := fun h => absurd h.1 (Nat.not_le.mpr hst.2)
      simp only [h₂.load, h₁.load, hfalls, htu, false_and, or_false, if_false]
    · simp only [h₂.load, h₁.load, hfalls, hst, false_and, false_or, if_false]
  · rw [hadmits, List.append_eq_nil_iff] at hidle
    obtain ⟨hq₁, hd₁⟩ := h₁.idle hidle.1
    obtain ⟨hq₂, hd₂⟩ := h₂.idle hidle.2
    exact ⟨hq₂.trans hq₁, hd₂.trans hd₁⟩
  · rw [hadmits] at hpass
    rcases hpass with hrun | ⟨p, hp, hslot⟩
    · exact h₂.pass (.inl (h₁.pass (.inl hrun)))
    · rcases List.mem_append.mp hp with hp | hp
      · exact h₂.pass (.inl (h₁.pass (.inr ⟨p, hp, hslot⟩)))
      · exact h₂.pass (.inr ⟨p, hp, hslot⟩)

theorem Posted.refl (s : State) : Posted s s [] := by
  have hnone : s.admits ([] : List Post) = [] := List.take_nil
  have hfalls : ¬s.fallsBelowFull s := fun h => absurd h.1 (Nat.not_le.mpr h.2)
  exact ⟨by simp [hnone], by simp, by rw [hnone, queueAfter_nil], by simp [hnone, hfalls], by simp [hfalls],
    fun _ => ⟨rfl, rfl⟩, by simp [hnone]⟩

/-- The account reads the records, the posters, the queue, the flags, the Load Engine and the dispatcher alone. -/
theorem Posted.of_same {r s t : State} {ps : List Post} (h : Posted s t ps) (hc : s.completions = r.completions)
    (hp : s.posters = r.posters) (hq : s.queue = r.queue) (he : s.events = r.events) (hl : s.load = r.load)
    (hd : s.dispatcher = r.dispatcher) : Posted r t ps := by
  have hadmits {α : Type} (l : List α) : r.admits l = s.admits l := by rw [State.admits, State.admits, hc]
  have hplain : r.plainQueue = s.plainQueue := by rw [State.plainQueue, State.plainQueue, hq]
  have hfalls : r.fallsBelowFull t ↔ s.fallsBelowFull t := by simp only [State.fallsBelowFull, hq]
  refine ⟨?_, ?_, ?_, ?_, ?_, ?_, ?_⟩
  · rw [hadmits, ← hc, h.completions]
  · rw [← hc, ← hp, h.posters]
  · rw [hadmits, hplain, h.queue]
  · simp only [hadmits, ← he, h.events, hfalls]
  · simp only [← hl, h.load, hfalls]
  · rw [hadmits, ← hq, ← hd]
    exact h.idle
  · rw [hadmits, ← hd]
    exact h.pass

/-! ### One offer -/

theorem admits_of_room {α : Type} {s : State} (h : s.completions.length < 16) (a : α) : s.admits [a] = [a] :=
  List.take_of_length_le (by simp; omega)

theorem admits_of_full {α : Type} {s : State} (h : ¬s.completions.length < 16) (l : List α) : s.admits l = [] := by
  rw [State.admits, Nat.sub_eq_zero_of_le (Nat.not_lt.mp h), List.take_zero]

/-- An offer that finds no room waits. -/
theorem posted_of_full {s : State} (h : ¬s.completions.length < 16) (p : Post) :
    Posted s { s with posters := s.posters ++ [p.poster] } [p] := by
  have hnone := admits_of_full h [p]
  have hdrop : 16 - s.completions.length = 0 := Nat.sub_eq_zero_of_le (Nat.not_lt.mp h)
  have hfalls : ¬s.fallsBelowFull { s with posters := s.posters ++ [p.poster] } :=
    fun h => absurd h.1 (Nat.not_le.mpr h.2)
  exact ⟨by simp [hnone], by simp [hdrop], by rw [hnone, queueAfter_nil]; rfl, by simp [hnone, hfalls],
    by simp [hfalls], fun _ => ⟨rfl, rfl⟩, by simp [hnone]⟩

/-- A pass started in the step of an offer that has been taken. -/
theorem Posted.startPass {s t : State} {ps : List Post} (h : Posted s t ps) (hsome : s.admits ps ≠ []) :
    Posted s t.startPass ps := by
  refine ⟨by simpa using h.completions, by simpa using h.posters, by simpa using h.queue, ?_, ?_,
    fun hidle => absurd hidle hsome, fun _ => passInProgress_startPass t⟩
  · simpa [State.fallsBelowFull] using h.events
  · simpa [State.fallsBelowFull] using h.load

end Sys2Proof.Machine

/-! PROOFS. The account of one offer and of several: the withdrawn entries of CANCEL_ALL (R70), and the slots cut with
CANCELLED (R102). -/

namespace Sys2Proof.Machine

/-! ### The offer of an entry -/

/-- An offer that finds room, field by field. -/
theorem posted_of_taken {s t : State} {p : Post} (hroom : s.completions.length < 16)
    (hc : t.completions = s.completions ++ [p.record]) (hp : t.posters = s.posters)
    (hq : t.plainQueue = queueAfter [p] s.plainQueue)
    (he : t.events = s.events ||| 1 ||| (if s.fallsBelowFull t then 2 else 0))
    (hl : t.load = if s.fallsBelowFull t ∧ s.load.state = .autoPending then
        { s.load with retriesOwed := s.load.retriesOwed + 1 }
      else s.load)
    (hpass : s.dispatcher.passInProgress = true ∨ (∃ n, p.poster = .slot n) → t.dispatcher.passInProgress = true) :
    Posted s t [p] := by
  have hadmits := admits_of_room hroom p
  have hdrop : [p].drop (16 - s.completions.length) = [] := List.drop_eq_nil_of_le (by simp; omega)
  exact ⟨by simp [hadmits, hc], by simp [hdrop, hp], by rw [hadmits, hq], by simpa [hadmits] using he, hl,
    by simp [hadmits], by simpa [hadmits] using hpass⟩

/-- With distinct tags, the lookup finds the entry that bears the tag. -/
theorem entryIndex_of_nodup {s : State} (h : (s.queue.map Entry.tag).Nodup) {e : Entry} (he : e ∈ s.queue) :
    ∃ i, s.entryIndex e.tag = some i ∧ s.queue[i]? = some e := by
  obtain ⟨i, e', hi, hget, htag⟩ := entryIndex_of_mem he
  obtain rfl := entry_of_tag h he (List.mem_of_getElem? hget) htag
  exact ⟨i, hi, hget⟩

/-- The post that an entry offers. -/
def Entry.post (e : Entry) (stamp : Word) : Post := ⟨.entry e.tag, e.record stamp⟩

theorem Entry.record_outcome_ne_done (e : Entry) (stamp : Word) : (e.record stamp).outcome ≠ .done := by
  unfold Entry.record
  cases e.state <;> simp

/-- The entry at a position removed and the after-tags that name it cleared, as the post's account has it. -/
theorem queueAfter_post {q : List Entry} (h : (q.map Entry.tag).Nodup) {i : Nat} {e : Entry} (hi : q[i]? = some e)
    (stamp : Word) :
    ((q.map (Entry.releasedBy [e.tag])).eraseIdx i).map Entry.plain
      = queueAfter [e.post stamp] (q.map Entry.plain) := by
  have hfilter : q.eraseIdx i = q.filter fun e' => decide (Poster.entry e'.tag ∉ [Poster.entry e.tag]) := by
    rw [eraseIdx_eq_filter h hi]
    exact List.filter_congr fun e' _ => by simp
  rw [List.eraseIdx_map, hfilter, queueAfter, List.filter_map, List.map_map, List.map_map]
  rfl

/-- The record of an entry joins and the entry leaves (R71). -/
theorem posted_removeEntry {s : State} (h : (s.queue.map Entry.tag).Nodup) {i : Nat} {e : Entry}
    (hi : s.queue[i]? = some e) (hroom : s.completions.length < 16) :
    Posted s ((s.addRecord (e.record s.frame.counter) false).removeEntry i) [e.post s.frame.counter] := by
  obtain ⟨hlt, -⟩ := List.getElem?_eq_some_iff.mp hi
  rw [addRecord_of_not_done s (e.record_outcome_ne_done s.frame.counter) false]
  set v : State := { s with
    completions := s.completions ++ [e.record s.frame.counter], events := s.events ||| 1,
    queue := s.queue.map (Entry.releasedBy [(e.record s.frame.counter).tag]) } with hv
  have hvlen : v.queue.length = s.queue.length := List.length_map _
  obtain ⟨hevents, hload⟩ := removeEntry_flags v (hvlen ▸ hlt)
  have hfalls : s.fallsBelowFull (v.removeEntry i) ↔ s.queue.length = 8 := by
    have hlen := List.length_eraseIdx_add_one (hvlen ▸ hlt : i < v.queue.length)
    rw [State.fallsBelowFull, queue_removeEntry]
    omega
  refine posted_of_taken hroom (by simp [hv, Entry.post]) (by simp [hv]) ?_ ?_ ?_ (by simp [hv, Entry.post])
  · rw [State.plainQueue, queue_removeEntry]
    exact queueAfter_post h hi s.frame.counter
  · simp only [hevents, hvlen, hfalls]
    split
    · rfl
    · exact (BitVec.or_zero).symm
  · simp only [hload, hvlen, hfalls]
    rfl

/-- The taking of an entry's post (R71). -/
theorem posted_takeEntryPost {s : State} (h : (s.queue.map Entry.tag).Nodup) {e : Entry} (he : e ∈ s.queue)
    (hroom : s.completions.length < 16) : Posted s (s.takeEntryPost e.tag) [e.post s.frame.counter] := by
  obtain ⟨i, hi, hget⟩ := entryIndex_of_nodup h he
  have hpost := posted_removeEntry h hget hroom
  simp only [State.takeEntryPost, hi, hget]
  split
  · exact hpost.startPass (by simp [admits_of_room hroom])
  · exact hpost

theorem posted_offer_entry {s : State} (h : (s.queue.map Entry.tag).Nodup) {e : Entry} (he : e ∈ s.queue) :
    Posted s (s.offer (.entry e.tag)) [e.post s.frame.counter] := by
  unfold State.offer
  split
  · exact posted_takeEntryPost h he ‹_›
  · exact posted_of_full ‹_› (e.post s.frame.counter)

/-! ### The offers of the withdrawn entries (R70) -/

/-- An entry's tag, mode and state, which its record holds. -/
def Entry.core (e : Entry) : Tag × Fin 8 × EntryState := (e.tag, e.mode, e.state)

theorem post_of_core {e e' : Entry} (h : e'.core = e.core) (stamp : Word) : e'.post stamp = e.post stamp := by
  obtain ⟨htag, hmode, hstate⟩ : e'.tag = e.tag ∧ e'.mode = e.mode ∧ e'.state = e.state := by
    simpa [Entry.core] using h
  simp only [Entry.post, Entry.record, htag, hmode, hstate]

theorem cores_plainQueue (s : State) : s.plainQueue.map Entry.core = s.queue.map Entry.core := by
  rw [State.plainQueue, List.map_map]
  rfl

theorem tags_of_cores (q : List Entry) : q.map Entry.tag = (q.map Entry.core).map Prod.fst := by
  rw [List.map_map]
  rfl

/-- The posts taken remove entries and leave the others their tags, modes and states. -/
theorem Posted.cores {s t : State} {ps : List Post} (h : Posted s t ps) :
    t.queue.map Entry.core =
      (s.queue.map Entry.core).filter fun c => decide (Poster.entry c.1 ∉ (s.admits ps).map Post.poster) := by
  rw [← cores_plainQueue, ← cores_plainQueue, h.queue, queueAfter, List.map_map, List.filter_map]
  rfl

/-- Entries of the queue offer their records one after another. -/
theorem posted_offerEntries {s : State} (es : List Entry) (h : (s.queue.map Entry.tag).Nodup)
    (hes : ∀ e ∈ es, e.core ∈ s.queue.map Entry.core) (hnodup : (es.map Entry.tag).Nodup) :
    Posted s (s.offerEntries (es.map Entry.tag)) (es.map fun e => e.post s.frame.counter) := by
  induction es generalizing s with
  | nil => exact Posted.refl s
  | cons e es ih =>
    obtain ⟨hnot, hrest⟩ := List.nodup_cons.mp hnodup
    obtain ⟨e', he', hcore⟩ := List.mem_map.mp (hes e List.mem_cons_self)
    have htag : e'.tag = e.tag := congrArg Prod.fst hcore
    have hfirst : Posted s (s.offer (.entry e.tag)) [e.post s.frame.counter] := by
      rw [← htag, ← post_of_core hcore]
      exact posted_offer_entry h he'
    have hsub : ((s.offer (.entry e.tag)).queue.map Entry.core).Sublist (s.queue.map Entry.core) := by
      rw [hfirst.cores]
      exact List.filter_sublist
    have hthen := ih (s := s.offer (.entry e.tag)) ?_ (fun a ha => ?_) hrest
    · have hframe : (s.offer (.entry e.tag)).frame = s.frame := by simp
      rw [hframe] at hthen
      exact hfirst.trans hthen
    · rw [tags_of_cores] at h ⊢
      exact (hsub.map _).nodup h
    · have hne : a.tag ≠ e.tag := fun heq => hnot (heq ▸ List.mem_map_of_mem ha)
      rw [hfirst.cores, List.mem_filter]
      refine ⟨hes a (List.mem_cons_of_mem _ ha), decide_eq_true fun hmem => ?_⟩
      have hmem' : Poster.entry a.core.1 ∈ [e.post s.frame.counter].map Post.poster :=
        ((List.take_sublist _ _).map _).subset hmem
      exact hne (by simpa [Entry.post, Entry.core] using hmem')

/-! ### The offer of a slot -/

/-- The post that a slot offers with an outcome. -/
def Slot.post (sl : Slot) (n : Fin 16) (o : SlotOutcome) (stamp : Word) : Post := ⟨.slot n, sl.record o stamp⟩

theorem Slot.record_outcome_ne_done (sl : Slot) {o : SlotOutcome} (h : o ≠ .done) (stamp : Word) :
    (sl.record o stamp).outcome ≠ .done := by
  cases o with
  | done => exact absurd rfl h
  | cancelled | fault => simp [Slot.record]

/-- The posting of a slot's record takes no entry from the queue. -/
theorem queueAfter_slotPost (q : List Entry) (sl : Slot) (n : Fin 16) (o : SlotOutcome) (stamp : Word) :
    queueAfter [sl.post n o stamp] q = q.map (Entry.releasedBy [sl.tag]) := by
  rw [queueAfter, List.filter_eq_self.mpr fun e _ => decide_eq_true (by simp [Slot.post])]
  rfl

/-- The taking of a slot's post (R106), with an outcome other than DONE. -/
theorem posted_takeSlotPost {s : State} {n : Fin 16} {o : SlotOutcome} (ho : (s.slot n).outcome = some o)
    (hdone : o ≠ .done) (hroom : s.completions.length < 16) :
    Posted s (s.takeSlotPost n) [(s.slot n).post n o s.frame.counter] := by
  have hfalls : ¬s.fallsBelowFull (s.takeSlotPost n) := by
    rw [State.fallsBelowFull, ← length_plainQueue, ← length_plainQueue (s.takeSlotPost n)]
    simp [State.takeSlotPost, ho, length_plainQueue]
  have hadd := addRecord_of_not_done s ((s.slot n).record_outcome_ne_done hdone s.frame.counter) (s.slot n).notify
  refine posted_of_taken hroom ?_ (by simp) ?_ ?_ (by simp [hfalls]) fun _ => ?_
  · simp [State.takeSlotPost, ho, hadd, Slot.post]
  · rw [queueAfter_slotPost]
    simp only [State.takeSlotPost, ho, hadd, plainQueue_startPass]
    simp only [State.plainQueue, State.setSlot, State.releaseTiles, List.map_map]
    rfl
  · rw [if_neg hfalls]
    simp only [State.takeSlotPost, ho, hadd, startPass_frame]
    exact (BitVec.or_zero).symm
  · simp only [State.takeSlotPost, ho]
    exact passInProgress_startPass _

theorem posted_offer_slot {s : State} {n : Fin 16} {o : SlotOutcome} (ho : (s.slot n).outcome = some o)
    (hdone : o ≠ .done) : Posted s (s.offer (.slot n)) [(s.slot n).post n o s.frame.counter] := by
  unfold State.offer
  split
  · exact posted_takeSlotPost ho hdone ‹_›
  · exact posted_of_full ‹_› ((s.slot n).post n o s.frame.counter)

end Sys2Proof.Machine

/-! PROOFS. Slots cut with CANCELLED one after another (R70, R102, R105): the account of one cut, and of the cuts of a list
of slots. -/

namespace Sys2Proof.Machine

/-! ### A slot enters ENDING and offers its record (R105, R106) -/

theorem posted_endSlot (s : State) (n : Fin 16) {o : SlotOutcome} (h : o ≠ .done) :
    Posted s (s.endSlot n o) [(s.slot n).post n o s.frame.counter] := by
  have hslot := slot_setSlot s n n { s.slot n with state := .ending, outcome := some o }
  rw [if_pos rfl] at hslot
  have hpost := posted_offer_slot (s := s.setSlot n { s.slot n with state := .ending, outcome := some o }) (n := n)
    (o := o) (by rw [hslot]) h
  rw [hslot] at hpost
  exact hpost.of_same rfl rfl rfl rfl rfl rfl

theorem slot_endSlot (s : State) (n m : Fin 16) (o : SlotOutcome) :
    (s.endSlot n o).slot m =
      if m ∈ s.admits [n] then Slot.cleared
      else if m ∈ [n] then { s.slot m with state := .ending, outcome := some o }
      else s.slot m := by
  set v := s.setSlot n { s.slot n with state := .ending, outcome := some o } with hv
  have hslot : v.slot m = if m = n then { s.slot n with state := .ending, outcome := some o } else s.slot m :=
    slot_setSlot s n m _
  by_cases hroom : s.completions.length < 16
  · have hoffer : s.endSlot n o = v.takePost (.slot n) := if_pos hroom
    rw [hoffer, slot_takePost, admits_of_room hroom, hslot]
    by_cases hm : m = n
    · simp [hm]
    · simp [hm, Ne.symm hm]
  · have hoffer : s.endSlot n o = { v with posters := v.posters ++ [.slot n] } := if_neg hroom
    rw [hoffer, admits_of_full hroom]
    change v.slot m = _
    rw [hslot]
    by_cases hm : m = n <;> simp [hm]

theorem tiles_endSlot (s : State) (n : Fin 16) (o : SlotOutcome) (k : Nat) :
    (s.endSlot n o).tiles[k]? = s.tiles[k]?.map fun t =>
      { t with owner := if ∃ m ∈ s.admits [n], t.owner = some m then none else t.owner } := by
  set v := s.setSlot n { s.slot n with state := .ending, outcome := some o } with hv
  have hout : (v.slot n).outcome = some o := by simp [hv]
  by_cases hroom : s.completions.length < 16
  · have hoffer : s.endSlot n o = v.takeSlotPost n := if_pos hroom
    have htiles : (v.takeSlotPost n).tiles = (v.releaseTiles n).tiles := by
      simp [State.takeSlotPost, hout, State.releaseTiles]
    rw [hoffer, htiles, tiles_releaseTiles, admits_of_room hroom]
    refine congrArg (fun f => Option.map f s.tiles[k]?) (funext fun t => ?_)
    by_cases ho : t.owner = some n <;> simp [ho]
  · have hoffer : s.endSlot n o = { v with posters := v.posters ++ [.slot n] } := if_neg hroom
    rw [hoffer, admits_of_full hroom]
    simp [hv]

/-! ### The account of slots cut -/

/-- A tile record after slots have been cut: released where its owner's record has been taken (R106), UNKNOWN in the claim
set of a slot that was DRIVING (R102). -/
def State.cutTile (s : State) (ns : List (Fin 16)) (k : Nat) (t : Tile) : Tile where
  owner := if ∃ n ∈ s.admits ns, t.owner = some n then none else t.owner
  known := if ∃ n ∈ ns, (s.slot n).state = .driving ∧ (s.slot n).rect.claims s.config.panelW k = true then false
    else t.known
  count := t.count

/-- The second state is the first after slots that were STARTING or DRIVING have been cut with CANCELLED, in the order of
the list. -/
structure CutAccount (s t : State) (ns : List (Fin 16)) : Prop where
  posted : Posted s t (ns.map fun n => (s.slot n).post n .cancelled s.frame.counter)
  slot : ∀ m, t.slot m =
    if m ∈ s.admits ns then Slot.cleared
    else if m ∈ ns then { s.slot m with state := .ending, outcome := some .cancelled }
    else s.slot m
  tiles : ∀ k : Nat, t.tiles[k]? = s.tiles[k]?.map (s.cutTile ns k)
  jobs : t.jobs = s.jobs.filter fun j =>
    decide ¬(j.slot ∈ ns ∧ (s.slot j.slot).state = .starting ∧ j.kind = .snapshot)
  plan : t.plan = s.plan.filter fun p => decide ¬(p.slot ∈ ns ∧ (s.slot p.slot).state = .driving)
  frame : t.frame = s.frame
  config : t.config = s.config

theorem CutAccount.refl (s : State) : CutAccount s s [] := by
  have hnone : s.admits ([] : List (Fin 16)) = [] := List.take_nil
  have htile (k : Nat) : s.cutTile [] k = id := by
    funext t
    simp [State.cutTile, hnone]
  exact ⟨Posted.refl s, by simp [hnone], by simp [htile], by simp, by simp, rfl, rfl⟩

/-- The cut of a STARTING slot, whose snapshot job leaves the list (R96, R102). -/
theorem cutAccount_of_starting {s : State} {n : Fin 16} (h : (s.slot n).state = .starting) :
    CutAccount s (s.cutSlot n .cancelled) [n] := by
  have hcut : s.cutSlot n .cancelled = (s.abandonSnapshot n).endSlot n .cancelled := by
    simp only [State.cutSlot, h]
  have hjobs : (s.cutSlot n .cancelled).jobs = (s.abandonSnapshot n).jobs := by simp [hcut]
  have hplan : (s.cutSlot n .cancelled).plan = s.plan := by simp [hcut]
  refine ⟨?_, fun m => ?_, fun k => ?_, ?_, ?_, by simp, by simp⟩
  · rw [hcut]
    exact (posted_endSlot (s.abandonSnapshot n) n (by simp)).of_same rfl rfl rfl rfl rfl rfl
  · rw [hcut]
    exact slot_endSlot (s.abandonSnapshot n) n m _
  · rw [hcut, tiles_endSlot]
    refine congrArg (fun f => Option.map f s.tiles[k]?) (funext fun t => ?_)
    simp [State.cutTile, h, State.admits]
    rfl
  · rw [hjobs]
    refine List.filter_congr fun j _ => ?_
    by_cases hj : j.slot = n <;> by_cases hk : j.kind = .snapshot <;> simp [hj, hk, h]
  · rw [hplan]
    refine (List.filter_eq_self.mpr fun p _ => decide_eq_true ?_).symm
    rintro ⟨hp, hdriving⟩
    rw [List.mem_singleton.mp hp, h] at hdriving
    cases hdriving

/-- The cut of a DRIVING slot, which leaves the plan and its tiles UNKNOWN (R99, R102). -/
theorem cutAccount_of_driving {s : State} {n : Fin 16} (h : (s.slot n).state = .driving) :
    CutAccount s (s.cutSlot n .cancelled) [n] := by
  set v := (s.leavePlan n).updateClaimed (s.slot n).rect fun _ t => t.makeUnknown with hv
  have hcut : s.cutSlot n .cancelled = v.endSlot n .cancelled := by
    simp only [State.cutSlot, h, hv]
  have hjobs : (s.cutSlot n .cancelled).jobs = s.jobs := by simp [hcut, hv]
  have hplan : (s.cutSlot n .cancelled).plan = (s.leavePlan n).plan := by simp [hcut, hv]
  refine ⟨?_, fun m => ?_, fun k => ?_, ?_, ?_, by simp, by simp⟩
  · rw [hcut]
    exact (posted_endSlot v n (by simp)).of_same rfl rfl rfl rfl rfl rfl
  · rw [hcut]
    exact slot_endSlot v n m _
  · rw [hcut, tiles_endSlot, hv, tiles_updateClaimed, Option.map_map]
    refine congrArg (fun f => Option.map f s.tiles[k]?) (funext fun t => ?_)
    by_cases hc : (s.slot n).rect.claims s.config.panelW k = true <;>
      simp [State.cutTile, h, hc, Tile.makeUnknown, State.admits] <;> rfl
  · rw [hjobs]
    refine (List.filter_eq_self.mpr fun j _ => decide_eq_true ?_).symm
    rintro ⟨hj, hstarting, -⟩
    rw [List.mem_singleton.mp hj, h] at hstarting
    cases hstarting
  · rw [hplan]
    refine List.filter_congr fun p _ => ?_
    by_cases hp : p.slot = n <;> simp [hp, h]

theorem mem_of_mem_admits {α : Type} {s : State} {l : List α} {a : α} (h : a ∈ s.admits l) : a ∈ l :=
  (List.take_sublist _ _).subset h

theorem CutAccount.slot_of_not_mem {s t : State} {ns : List (Fin 16)} (h : CutAccount s t ns) {m : Fin 16}
    (hm : m ∉ ns) : t.slot m = s.slot m := by
  rw [h.slot, if_neg fun h => hm (mem_of_mem_admits h), if_neg hm]

/-- Cuts that follow one another rewrite the tiles one after another. -/
theorem cutTile_cons {s t : State} {n : Fin 16} {ns : List (Fin 16)}
    (hadmits : s.admits (n :: ns) = s.admits [n] ++ t.admits ns)
    (hconfig : t.config = s.config) (hslot : ∀ m ∈ ns, t.slot m = s.slot m) (k : Nat) (x : Tile) :
    t.cutTile ns k (s.cutTile [n] k x) = s.cutTile (n :: ns) k x := by
  have hknown : (∃ m ∈ ns, (t.slot m).state = .driving ∧ (t.slot m).rect.claims t.config.panelW k = true) ↔
      ∃ m ∈ ns, (s.slot m).state = .driving ∧ (s.slot m).rect.claims s.config.panelW k = true := by
    rw [hconfig]
    exact exists_congr fun m => and_congr_right fun hm => by rw [hslot m hm]
  have howner : (∃ m ∈ s.admits (n :: ns), x.owner = some m) ↔
      (∃ m ∈ s.admits [n], x.owner = some m) ∨ ∃ m ∈ t.admits ns, x.owner = some m := by
    simp only [hadmits, List.mem_append, or_and_right, exists_or]
  simp only [State.cutTile, hknown, howner, Tile.mk.injEq]
  refine ⟨?_, ?_, trivial⟩
  · by_cases hfirst : ∃ m ∈ s.admits [n], x.owner = some m <;> simp [hfirst]
  · by_cases hrest : ∃ m ∈ ns, (s.slot m).state = .driving ∧ (s.slot m).rect.claims s.config.panelW k = true <;>
      simp [hrest]

/-- Cuts of different slots one after another. -/
theorem CutAccount.cons {s t u : State} {n : Fin 16} {ns : List (Fin 16)} (h₁ : CutAccount s t [n])
    (h₂ : CutAccount t u ns) (hn : n ∉ ns) : CutAccount s u (n :: ns) := by
  have hadmits : s.admits (n :: ns) = s.admits [n] ++ t.admits ns := h₁.posted.admits_append [n] ns rfl
  have hslot : ∀ m ∈ ns, t.slot m = s.slot m := fun m hm =>
    h₁.slot_of_not_mem fun h => hn (List.mem_singleton.mp h ▸ hm)
  refine ⟨?_, fun m => ?_, fun k => ?_, ?_, ?_, h₂.frame.trans h₁.frame, h₂.config.trans h₁.config⟩
  · have hposts : ns.map (fun m => (s.slot m).post m .cancelled s.frame.counter)
        = ns.map fun m => (t.slot m).post m .cancelled t.frame.counter :=
      List.map_congr_left fun m hm => by rw [hslot m hm, h₁.frame]
    have hboth := h₁.posted.trans h₂.posted
    rw [← hposts] at hboth
    exact hboth
  · by_cases hm : m ∈ ns
    · have hne : m ≠ n := fun heq => hn (heq ▸ hm)
      have hiff : m ∈ s.admits (n :: ns) ↔ m ∈ t.admits ns := by
        rw [hadmits, List.mem_append, or_iff_right fun h => hne (List.mem_singleton.mp (mem_of_mem_admits h))]
      simp only [h₂.slot, hiff, hm, hslot m hm, List.mem_cons, or_true]
    · have hiff : m ∈ s.admits (n :: ns) ↔ m ∈ s.admits [n] := by
        rw [hadmits, List.mem_append, or_iff_left fun h => hm (mem_of_mem_admits h)]
      simp only [h₂.slot_of_not_mem hm, h₁.slot, hiff, hm, List.mem_cons, or_false, List.not_mem_nil]
  · rw [h₂.tiles, h₁.tiles, Option.map_map]
    exact congrArg (fun f => Option.map f s.tiles[k]?) (funext (cutTile_cons hadmits h₁.config hslot k))
  · rw [h₂.jobs, h₁.jobs, List.filter_filter]
    refine List.filter_congr fun j _ => ?_
    by_cases hj : j.slot ∈ ns
    · have hne : j.slot ≠ n := fun heq => hn (heq ▸ hj)
      simp [hj, hne, hslot j.slot hj]
    · simp [hj]
  · rw [h₂.plan, h₁.plan, List.filter_filter]
    refine List.filter_congr fun p _ => ?_
    by_cases hp : p.slot ∈ ns
    · have hne : p.slot ≠ n := fun heq => hn (heq ▸ hp)
      simp [hp, hne, hslot p.slot hp]
    · simp [hp]

theorem cutSlot_of_not_active {s : State} {n : Fin 16} (h : ¬(s.slot n).active = true) (o : SlotOutcome) :
    s.cutSlot n o = s := by
  rw [active_iff, not_or] at h
  unfold State.cutSlot
  split
  · exact absurd ‹_› h.1
  · exact absurd ‹_› h.2
  all_goals rfl

/-- The slots of a list that are STARTING or DRIVING are cut, in its order. -/
theorem cutAccount_cutSlots (s : State) {ns : List (Fin 16)} (hn : ns.Nodup) :
    CutAccount s (s.cutSlots .cancelled ns) (ns.filter fun n => (s.slot n).active) := by
  induction ns generalizing s with
  | nil => exact CutAccount.refl s
  | cons n ns ih =>
    obtain ⟨hnot, hrest⟩ := List.nodup_cons.mp hn
    by_cases hactive : (s.slot n).active = true
    · have hfirst : CutAccount s (s.cutSlot n .cancelled) [n] :=
        ((active_iff _).mp hactive).elim cutAccount_of_starting cutAccount_of_driving
      have hthen := ih (s.cutSlot n .cancelled) hrest
      have hsame : ns.filter (fun m => ((s.cutSlot n .cancelled).slot m).active)
          = ns.filter fun m => (s.slot m).active := by
        refine List.filter_congr fun m hm => ?_
        rw [hfirst.slot_of_not_mem fun h => hnot (List.mem_singleton.mp h ▸ hm)]
      rw [hsame] at hthen
      rw [List.filter_cons, if_pos hactive]
      exact hfirst.cons hthen fun h => hnot (List.mem_filter.mp h).1
    · rw [List.filter_cons, if_neg hactive, State.cutSlots, cutSlot_of_not_active hactive]
      exact ih s hrest

end Sys2Proof.Machine

/-! PROOFS. What the end of a step makes of a pass that has nothing left to examine, and CANCEL_ALL (R70). -/

namespace Sys2Proof.Machine

/-! ### The end of a step by what it reads of the requests -/

/-- The queue and the dispatcher's flags replaced. -/
def State.withRequests (s : State) (q : List Entry) (d : Dispatcher) : State := { s with queue := q, dispatcher := d }

theorem dischargeIfDue_withRequests (s : State) (q : List Entry) (d : Dispatcher) :
    (s.withRequests q d).dischargeIfDue = s.dischargeIfDue.withRequests q d := by
  have hactive : (s.withRequests q d).anyActive = s.anyActive := rfl
  have hpower : (s.withRequests q d).power = s.power := rfl
  unfold State.dischargeIfDue
  rw [hactive, hpower]
  split <;> rfl

theorem temperatureFrame_withRequests (s : State) (q : List Entry) (d : Dispatcher) :
    (s.withRequests q d).temperatureFrame = s.temperatureFrame.withRequests q d := by
  unfold State.temperatureFrame State.withRequests
  dsimp only
  split
  · rfl
  · split <;> rfl

theorem regionFrame_withRequests (s : State) (q : List Entry) (d : Dispatcher) :
    (s.withRequests q d).regionFrame = s.regionFrame.withRequests q d := by
  have hpower : (s.withRequests q d).power = s.power := rfl
  unfold State.regionFrame
  rw [hpower]
  split
  · exact dischargeIfDue_withRequests { s.advanced with plan := s.advanced.makePlan } q d
  · rfl

/-- A frame start looks at the queue for WAITING entries alone (R126). -/
theorem powerFrame_withRequests (s : State) {q : List Entry} (d : Dispatcher)
    (hq : (q.any fun e => e.state == .waiting) = s.queue.any fun e => e.state == .waiting) :
    (s.withRequests q d).powerFrame = s.powerFrame.withRequests q d := by
  have hidle : (s.withRequests q d).nextIdleCount = s.nextIdleCount := by
    have hpart : (s.withRequests q d).partIdle = s.partIdle := congrArg (fun b => !s.anyActive && !b) hq
    unfold State.nextIdleCount
    rw [hpart]
    rfl
  have hpower : (s.withRequests q d).power = s.power := rfl
  have hconfig : (s.withRequests q d).config = s.config := rfl
  unfold State.powerFrame
  rw [hpower, hidle, hconfig]
  split
  · split <;> rfl
  · split <;> rfl
  all_goals rfl

theorem scanFrame_withRequests (s : State) (q : List Entry) (d : Dispatcher) :
    (s.withRequests q d).scanFrame = s.scanFrame.withRequests q d := by
  unfold State.scanFrame State.withRequests
  dsimp only
  split
  · split <;> rfl
  all_goals rfl

theorem deliverFrame_withRequests (s : State) {q : List Entry} (d : Dispatcher)
    (hq : (q.any fun e => e.state == .waiting) = s.queue.any fun e => e.state == .waiting) :
    (s.withRequests q d).deliverFrame .regionFirst = (s.deliverFrame .regionFirst).withRequests q d := by
  set u : State := { s with frame := ⟨some s.config.frameTime, false, s.frame.counter + 1⟩ } with hu
  have hdeliver : s.deliverFrame .regionFirst = u.temperatureFrame.regionFrame.powerFrame.scanFrame := rfl
  have hdeliver' : (s.withRequests q d).deliverFrame .regionFirst
      = (u.withRequests q d).temperatureFrame.regionFrame.powerFrame.scanFrame := rfl
  rw [hdeliver, hdeliver', temperatureFrame_withRequests, regionFrame_withRequests,
    powerFrame_withRequests _ d (by simpa [hu] using hq), scanFrame_withRequests]

theorem stopScanIfLeft_withRequests (s : State) {q : List Entry} (d : Dispatcher)
    (hq : (q.any fun e => e.state == .waiting) = s.queue.any fun e => e.state == .waiting) :
    (s.withRequests q d).stopScanIfLeft = s.stopScanIfLeft.withRequests q d := by
  have hscan : (s.withRequests q d).scan = s.scan := rfl
  have hpower : (s.withRequests q d).power = s.power := rfl
  have hheld : (s.withRequests q d).frame = s.frame := rfl
  unfold State.stopScanIfLeft State.endScan
  rw [hscan, hpower, hheld]
  split
  · rfl
  · split
    · rfl
    · dsimp only
      split
      · exact deliverFrame_withRequests (State.raise { s with scan := none } .frameLate) d hq
      · rfl

/-- With no WAITING entry left, a pass in progress ends with the step, and an owed one with it (R75, R76). -/
theorem settle_of_none_waiting {s : State} (hpass : s.dispatcher.passInProgress = true)
    (hnone : ∀ e ∈ s.queue, e.state ≠ .waiting) :
    s.settle = s.dischargeIfDue.stopScanIfLeft.withRequests s.plainQueue ⟨false, false⟩ := by
  have hqueue : s.dischargeIfDue.stopScanIfLeft.queue = s.queue := by simp
  have hdispatcher : s.dischargeIfDue.stopScanIfLeft.dispatcher = s.dispatcher := by simp
  have hexamine : s.queue.any Entry.toExamine = false :=
    List.any_eq_false.mpr fun e he => by simp [Entry.toExamine, hnone e he]
  have hwaiting : (s.queue.any fun e => e.state == .waiting) = false :=
    List.any_eq_false.mpr fun e he => by simpa using hnone e he
  rw [State.settle, State.endPassIfDone, hqueue, hdispatcher, hpass, hexamine, hwaiting]
  simp only [Bool.not_false, Bool.and_self, Bool.and_false, if_true, Bool.false_eq_true, if_false, State.markDue, hqueue]
  rfl

/-- The marks of a pass that ends with the step, and what it owes, are not seen after it. -/
theorem settle_withRequests {s : State} {q : List Entry} {d : Dispatcher} (hs : s.dispatcher.passInProgress = true)
    (hd : d.passInProgress = true) (hq : q.map Entry.plain = s.plainQueue) (hnone : ∀ e ∈ s.queue, e.state ≠ .waiting) :
    (s.withRequests q d).settle = s.settle := by
  have hstates : q.map Entry.state = s.queue.map Entry.state := by
    have h := congrArg (List.map Entry.state) hq
    simpa [State.plainQueue, Function.comp_def, Entry.plain] using h
  have hany : (q.any fun e => e.state == .waiting) = s.queue.any fun e => e.state == .waiting := by
    have h := congrArg (List.any · (· == EntryState.waiting)) hstates
    simpa [List.any_map, Function.comp_def] using h
  have hnone' : ∀ e ∈ q, e.state ≠ .waiting := by
    intro e he
    obtain ⟨e', he', heq⟩ := List.mem_map.mp (hstates ▸ List.mem_map_of_mem he : e.state ∈ s.queue.map Entry.state)
    exact heq ▸ hnone e' he'
  have hplain : (s.withRequests q d).plainQueue = s.plainQueue := hq
  rw [settle_of_none_waiting hs hnone, settle_of_none_waiting (s := s.withRequests q d) hd hnone', hplain,
    dischargeIfDue_withRequests, stopScanIfLeft_withRequests _ d (by simpa using hany)]
  rfl

/-- Two states that differ in the marks of a pass and in what it owes alone, where nothing WAITING is left, end their
steps alike. -/
theorem settle_eq_of_marks {s t : State} (h : t = s.withRequests t.queue t.dispatcher)
    (hplain : t.plainQueue = s.plainQueue) (hnone : ∀ e ∈ s.queue, e.state ≠ .waiting)
    (hrun : s.dispatcher.passInProgress = true → t.dispatcher.passInProgress = true)
    (hidle : s.dispatcher.passInProgress = false → t.queue = s.queue ∧ t.dispatcher = s.dispatcher) :
    t.settle = s.settle := by
  cases hs : s.dispatcher.passInProgress with
  | true =>
    rw [h]
    exact settle_withRequests hs (hrun hs) hplain hnone
  | false =>
    obtain ⟨hqueue, hdispatcher⟩ := hidle hs
    rw [h, hqueue, hdispatcher]
    rfl

end Sys2Proof.Machine

/-! PROOFS. CANCEL_ALL (R70): the withdrawn entries' offers and the cuts as one list of posts, and the whole state after
it. -/

namespace Sys2Proof.Machine

/-! ### The posts of CANCEL_ALL -/

/-- A WAITING entry withdrawn; another entry as it is (R70). -/
def Entry.withdrawn (e : Entry) : Entry := if e.state = .waiting then { e with state := .withdrawn } else e

theorem Entry.withdrawn_tag (e : Entry) : e.withdrawn.tag = e.tag := by
  unfold Entry.withdrawn
  split <;> rfl

theorem Entry.withdrawn_state (e : Entry) : e.withdrawn.state ≠ .waiting := by
  unfold Entry.withdrawn
  split
  · simp
  · assumption

theorem queue_withdrawAll (s : State) : s.withdrawAll.queue = s.queue.map Entry.withdrawn := rfl

/-- The WAITING entries, oldest first. -/
def State.waitingEntries (s : State) : List Entry := s.queue.filter fun e => decide (e.state = .waiting)

/-- The slots that are STARTING or DRIVING, in ascending number. -/
def State.activeSlots (s : State) : List (Fin 16) :=
  slotNumbers.filter fun n => decide ((s.slot n).state = .starting ∨ (s.slot n).state = .driving)

theorem waitingTags_eq (s : State) : s.waitingTags = (s.waitingEntries.map Entry.withdrawn).map Entry.tag := by
  have htag : Entry.tag ∘ Entry.withdrawn = Entry.tag := funext Entry.withdrawn_tag
  rw [List.map_map, htag, State.waitingTags, State.waitingEntries]
  rfl

theorem activeSlots_eq (s : State) : s.activeSlots = slotNumbers.filter fun n => (s.slot n).active :=
  List.filter_congr fun n _ => by rw [Bool.eq_iff_iff, active_iff, decide_eq_true_iff]

/-- What the posters of CANCEL_ALL post: the withdrawn entries, then the slots cut. -/
def State.cancelPosts (s : State) : List Post :=
  (s.waitingEntries.map Entry.withdrawn).map (fun e => e.post s.frame.counter) ++
    s.activeSlots.map fun n => (s.slot n).post n .cancelled s.frame.counter

/-- The state after the offers of the withdrawn entries. -/
def State.allOffered (s : State) : State := s.withdrawAll.offerEntries s.waitingTags

/-- The state after the cuts, before the pass that the withdrawals start. -/
def State.allCut (s : State) : State := s.allOffered.cutSlots .cancelled slotNumbers

/-- An entry's offer touches neither the slots nor the tiles. -/
theorem offer_entry_frame (s : State) (t : Tag) :
    (s.offer (.entry t)).slots = s.slots ∧ (s.offer (.entry t)).tiles = s.tiles := by
  unfold State.offer
  split <;> simp [State.takePost]

theorem offerEntries_slots (s : State) (ts : List Tag) :
    (s.offerEntries ts).slots = s.slots ∧ (s.offerEntries ts).tiles = s.tiles := by
  induction ts generalizing s with
  | nil => exact ⟨rfl, rfl⟩
  | cons t ts ih =>
    obtain ⟨hslots, htiles⟩ := offer_entry_frame s t
    obtain ⟨hslots', htiles'⟩ := ih (s.offer (.entry t))
    exact ⟨hslots'.trans hslots, htiles'.trans htiles⟩

theorem slots_allOffered (s : State) : s.allOffered.slots = s.slots := (offerEntries_slots s.withdrawAll _).1
theorem tiles_allOffered (s : State) : s.allOffered.tiles = s.tiles := (offerEntries_slots s.withdrawAll _).2

theorem posted_allOffered {s : State} (h : s.liveTags.Nodup) :
    Posted s.withdrawAll s.allOffered
      ((s.waitingEntries.map Entry.withdrawn).map fun e => e.post s.frame.counter) := by
  obtain ⟨hentries, -, -⟩ := (nodup_liveTags_iff s).mp h
  have htags : (s.withdrawAll.queue.map Entry.tag) = s.queue.map Entry.tag := by
    rw [queue_withdrawAll, List.map_map]
    exact congrArg (List.map · s.queue) (funext Entry.withdrawn_tag)
  rw [State.allOffered, waitingTags_eq]
  refine posted_offerEntries (s := s.withdrawAll) _ (htags ▸ hentries) (fun e he => ?_) ?_
  · obtain ⟨e', he', rfl⟩ := List.mem_map.mp he
    rw [queue_withdrawAll]
    exact List.mem_map_of_mem (List.mem_map_of_mem (List.mem_filter.mp he').1)
  · rw [← waitingTags_eq]
    exact (List.filter_sublist.map _).nodup hentries

theorem cutAccount_allCut (s : State) : CutAccount s.allOffered s.allCut s.activeSlots := by
  have haccount := cutAccount_cutSlots s.allOffered nodup_slotNumbers
  have hactive : slotNumbers.filter (fun n => (s.allOffered.slot n).active) = s.activeSlots := by
    rw [activeSlots_eq]
    exact List.filter_congr fun n _ => by rw [slot_of_slots (slots_allOffered s)]
  rwa [hactive] at haccount

theorem posted_allCut {s : State} (h : s.liveTags.Nodup) : Posted s.withdrawAll s.allCut s.cancelPosts := by
  have hcuts := (cutAccount_allCut s).posted
  have hframe : s.allOffered.frame = s.frame := by simp [State.allOffered]
  simp only [hframe, slot_of_slots (slots_allOffered s)] at hcuts
  exact (posted_allOffered h).trans hcuts

/-! ### The whole state after CANCEL_ALL -/

theorem withRequests_self (s : State) : s = s.withRequests s.queue s.dispatcher := rfl

/-- A pass that starts touches the queue's marks and the dispatcher alone (R75). -/
theorem startPass_eq_withRequests (s : State) :
    s.startPass = s.withRequests s.startPass.queue s.startPass.dispatcher := by
  unfold State.startPass
  split <;> rfl

theorem cancelAll_eq (s : State) :
    s.cancelAll.1 = if s.waitingTags.isEmpty then s.allCut else s.allCut.startPass := rfl

/-- The pass that the withdrawals start touches the queue's marks and the dispatcher alone. -/
theorem cancelAll_eq_withRequests (s : State) :
    s.cancelAll.1 = s.allCut.withRequests s.cancelAll.1.queue s.cancelAll.1.dispatcher := by
  rw [cancelAll_eq]
  split
  · exact withRequests_self _
  · exact startPass_eq_withRequests _

theorem plainQueue_cancelAll (s : State) : s.cancelAll.1.plainQueue = s.allCut.plainQueue := by
  rw [cancelAll_eq]
  split
  · rfl
  · exact plainQueue_startPass _

/-- With distinct live tags, the tag of an entry is among those posted where the entry's own post is. -/
theorem tag_mem_cancelPosts {s : State} (h : s.liveTags.Nodup) {ps : List Post} (hps : ∀ p ∈ ps, p ∈ s.cancelPosts)
    {e : Entry} (he : e ∈ s.queue) :
    Poster.entry e.tag ∈ ps.map Post.poster ↔ e.tag ∈ ps.map fun p => p.record.tag := by
  obtain ⟨-, -, hcross⟩ := (nodup_liveTags_iff s).mp h
  simp only [List.mem_map]
  constructor
  · rintro ⟨p, hp, hposter⟩
    refine ⟨p, hp, ?_⟩
    rcases List.mem_append.mp (hps p hp) with hentry | hslot
    · obtain ⟨e', -, rfl⟩ := List.mem_map.mp hentry
      exact Poster.entry.inj hposter
    · obtain ⟨n, -, rfl⟩ := List.mem_map.mp hslot
      cases hposter
  · rintro ⟨p, hp, htag⟩
    refine ⟨p, hp, ?_⟩
    rcases List.mem_append.mp (hps p hp) with hentry | hslot
    · obtain ⟨e', -, rfl⟩ := List.mem_map.mp hentry
      exact congrArg Poster.entry htag
    · obtain ⟨n, hn, rfl⟩ := List.mem_map.mp hslot
      have hlive : (s.slot n).state ≠ .free := by
        rcases of_decide_eq_true (List.mem_filter.mp hn).2 with hst | hst <;> simp [hst]
      exact absurd (List.mem_map.mpr ⟨e, he, htag.symm⟩) (hcross n hlive)

/-- The entries whose tags are not among those of the posts taken. -/
def State.queueLeft (s : State) (ts : List Tag) : List Entry := s.queue.filter fun e => decide (e.tag ∉ ts)

/-- An entry as CANCEL_ALL leaves it: withdrawn if it was WAITING, and its after-tag cleared if it names a request whose
post has been taken. -/
def Entry.cancelled (ts : List Tag) (e : Entry) : Entry :=
  { e with
    state := if e.state = .waiting then .withdrawn else e.state
    afterTag := if e.afterTag ∈ ts then 0 else e.afterTag }

theorem releasedBy_withdrawn (ts : List Tag) (e : Entry) : e.withdrawn.releasedBy ts = e.cancelled ts := by
  by_cases hwait : e.state = .waiting <;> simp [Entry.withdrawn, Entry.releasedBy, Entry.cancelled, hwait]

theorem cancelled_state (ts : List Tag) (e : Entry) : (e.cancelled ts).state ≠ .waiting := by
  rw [← releasedBy_withdrawn]
  exact e.withdrawn_state

/-- The tags of the requests whose posts CANCEL_ALL has taken. -/
def State.cancelTags (s : State) : List Tag := s.admits (s.cancelPosts.map fun p => p.record.tag)

theorem plainQueue_allCut {s : State} (h : s.liveTags.Nodup) :
    s.allCut.plainQueue = ((s.queueLeft s.cancelTags).map (Entry.cancelled s.cancelTags)).map Entry.plain := by
  have htags : (s.admits s.cancelPosts).map (fun p => p.record.tag) = s.cancelTags := List.map_take
  have hplain : s.withdrawAll.plainQueue = s.queue.map (Entry.plain ∘ Entry.withdrawn) := by
    rw [State.plainQueue, queue_withdrawAll, List.map_map]
  have hqueue : s.allCut.plainQueue = queueAfter (s.admits s.cancelPosts) s.withdrawAll.plainQueue :=
    (posted_allCut h).queue
  have hleft : s.queue.filter (fun e =>
      decide (Poster.entry ((Entry.plain ∘ Entry.withdrawn) e).tag ∉ (s.admits s.cancelPosts).map Post.poster))
      = s.queueLeft s.cancelTags := by
    refine List.filter_congr fun e he => ?_
    have hiff := tag_mem_cancelPosts h (ps := s.admits s.cancelPosts) (fun p hp => mem_of_mem_admits hp) he
    rw [htags] at hiff
    have htag : ((Entry.plain ∘ Entry.withdrawn) e).tag = e.tag := e.withdrawn_tag
    simp only [htag, hiff]
  rw [hqueue, hplain, queueAfter_map, hleft, htags, List.map_map]
  exact List.map_congr_left fun e _ => congrArg Entry.plain (releasedBy_withdrawn s.cancelTags e)

/-- CANCEL_ALL takes the queue below 8 entries where the entries left are fewer. -/
theorem fallsBelowFull_allCut {s : State} (h : s.liveTags.Nodup) :
    s.withdrawAll.fallsBelowFull s.allCut ↔ 8 ≤ s.queue.length ∧ (s.queueLeft s.cancelTags).length < 8 := by
  have hlen : s.allCut.queue.length = (s.queueLeft s.cancelTags).length := by
    rw [← length_plainQueue, plainQueue_allCut h, List.length_map, List.length_map]
  rw [State.fallsBelowFull, hlen, queue_withdrawAll, List.length_map]

/-! ### The posts by their posters, their records and their tags -/

theorem posters_cancelPosts (s : State) :
    s.cancelPosts.map Post.poster =
      s.waitingEntries.map (fun e => Poster.entry e.tag) ++ s.activeSlots.map Poster.slot := by
  simp only [State.cancelPosts, List.map_append, List.map_map]
  congr 1
  exact List.map_congr_left fun e _ => congrArg Poster.entry e.withdrawn_tag

theorem tags_cancelPosts (s : State) :
    s.cancelPosts.map (fun p => p.record.tag) =
      s.waitingEntries.map Entry.tag ++ s.activeSlots.map fun n => (s.slot n).tag := by
  simp only [State.cancelPosts, List.map_append, List.map_map]
  congr 1
  exact List.map_congr_left fun e _ => e.withdrawn_tag

theorem records_cancelPosts (s : State) :
    s.cancelPosts.map Post.record =
      s.waitingEntries.map (fun e => {
        tag := e.tag, outcome := .cancelled, promoted := false, widened := false, started := false, mode := e.mode,
        band := none, framesDriven := 0, startStamp := none, endStamp := s.frame.counter }) ++
      s.activeSlots.map fun n => {
        tag := (s.slot n).tag, outcome := .cancelled, promoted := (s.slot n).promoted, widened := (s.slot n).widened,
        started := true, mode := (s.slot n).mode, band := some (s.slot n).band,
        framesDriven := (s.slot n).framesDriven, startStamp := (s.slot n).startStamp, endStamp := s.frame.counter } := by
  simp only [State.cancelPosts, List.map_append, List.map_map]
  congr 1
  refine List.map_congr_left fun e he => ?_
  have hwait : e.state = .waiting := of_decide_eq_true (List.mem_filter.mp he).2
  simp [Entry.post, Entry.record, Entry.withdrawn, hwait]

/-- A slot's post is taken where the slot's place in the order finds the room that the entries leave. -/
theorem slot_mem_admits {s : State} (h : s.liveTags.Nodup) (n : Fin 16) :
    Poster.slot n ∈ s.admits (s.cancelPosts.map Post.poster) ↔ n ∈ s.allOffered.admits s.activeSlots := by
  have hsplit : s.admits (s.cancelPosts.map Post.poster) =
      s.admits (s.waitingEntries.map fun e => Poster.entry e.tag) ++
        s.allOffered.admits (s.activeSlots.map Poster.slot) := by
    rw [posters_cancelPosts]
    exact (posted_allOffered h).admits_append _ _ (by simp)
  have hmap : s.allOffered.admits (s.activeSlots.map Poster.slot) =
      (s.allOffered.admits s.activeSlots).map Poster.slot :=
    List.map_take.symm
  rw [hsplit, hmap, List.mem_append]
  constructor
  · rintro (hentry | hslot)
    · obtain ⟨e, -, heq⟩ := List.mem_map.mp (mem_of_mem_admits hentry)
      cases heq
    · obtain ⟨m, hm, heq⟩ := List.mem_map.mp hslot
      exact Poster.slot.inj heq ▸ hm
  · exact fun hm => .inr (List.mem_map_of_mem hm)

/-! ### The pass of CANCEL_ALL -/

/-- Some pass runs after CANCEL_ALL where one ran before it, an entry was withdrawn, or a slot's post was taken. -/
theorem passInProgress_cancelAll {s : State} (h : s.liveTags.Nodup)
    (hpass : s.dispatcher.passInProgress = true ∨ s.waitingEntries ≠ [] ∨
      ∃ p ∈ s.admits s.cancelPosts, ∃ n, p.poster = .slot n) :
    s.cancelAll.1.dispatcher.passInProgress = true := by
  rw [cancelAll_eq]
  split
  · rename_i hempty
    have hnone : s.waitingEntries = [] := by simpa [waitingTags_eq] using hempty
    refine (posted_allCut h).pass (hpass.imp_right fun hrest => ?_)
    exact hrest.resolve_left fun hne => hne hnone
  · exact passInProgress_startPass _

/-- Where nothing has been withdrawn and no post taken, the queue and the dispatcher stay as they are. -/
theorem cancelAll_idle {s : State} (h : s.liveTags.Nodup) (hnone : s.waitingEntries = [])
    (htaken : s.admits s.cancelPosts = []) :
    s.cancelAll.1.queue = s.queue.map Entry.withdrawn ∧ s.cancelAll.1.dispatcher = s.dispatcher := by
  have hempty : s.waitingTags.isEmpty = true := by simp [waitingTags_eq, hnone]
  rw [cancelAll_eq, if_pos hempty]
  exact (posted_allCut h).idle htaken

/-- The fields that CANCEL_ALL leaves alone. -/
theorem allCut_frame (s : State) :
    s.allCut.pending = s.pending ∧ s.allCut.phase = s.phase ∧ s.allCut.freeIndex = s.freeIndex ∧
      s.allCut.pgood = s.pgood ∧ s.allCut.bus = s.bus ∧ s.allCut.config = s.config ∧
      s.allCut.eventMask = s.eventMask ∧ s.allCut.image = s.image ∧ s.allCut.store = s.store ∧
      s.allCut.frame = s.frame ∧ s.allCut.scan = s.scan ∧ s.allCut.power = s.power ∧ s.allCut.temp = s.temp := by
  simp [State.allCut, State.allOffered]

/-- The state after the cuts as an update of the state before them. -/
theorem allCut_eq (s : State) :
    s.allCut = { s with
      queue := s.allCut.queue, dispatcher := s.allCut.dispatcher, completions := s.allCut.completions,
      posters := s.allCut.posters, slots := s.allCut.slots, tiles := s.allCut.tiles, jobs := s.allCut.jobs,
      plan := s.allCut.plan, events := s.allCut.events, load := s.allCut.load } := by
  have hframe := allCut_frame s
  generalize s.allCut = t at hframe ⊢
  obtain ⟨h1, h2, h3, h4, h5, h6, h7, h8, h9, h10, h11, h12, h13⟩ := hframe
  rw [← h1, ← h2, ← h3, ← h4, ← h5, ← h6, ← h7, ← h8, ← h9, ← h10, ← h11, ← h12, ← h13]

end Sys2Proof.Machine

/-! PROOFS. The whole state after CANCEL_ALL (R70), and O32. -/

namespace Sys2Proof.Machine

/-! ### The slots, the tiles, the jobs and the plan -/

/-- A slot after CANCEL_ALL: FREE where its post has been taken, in ENDING where it waits. -/
theorem slot_allCut {s : State} (h : s.liveTags.Nodup) (n : Fin 16) :
    s.allCut.slot n =
      if n ∈ s.activeSlots then
        (if Poster.slot n ∈ s.admits (s.cancelPosts.map Post.poster) then Slot.cleared
          else { s.slot n with state := .ending, outcome := some .cancelled })
      else s.slot n := by
  rw [(cutAccount_allCut s).slot n, slot_of_slots (slots_allOffered s)]
  by_cases hn : n ∈ s.activeSlots
  · simp only [hn, if_true, slot_mem_admits h]
  · rw [if_neg fun hmem => hn (mem_of_mem_admits hmem), if_neg hn, if_neg hn]

/-- A tile after CANCEL_ALL: released where its owner's post has been taken, UNKNOWN in the claim set of a slot that was
DRIVING. -/
theorem tiles_allCut {s : State} (h : s.liveTags.Nodup) (k : Nat) :
    s.allCut.tiles[k]? = s.tiles[k]?.map fun t =>
      { owner := if ∃ n, t.owner = some n ∧ Poster.slot n ∈ s.admits (s.cancelPosts.map Post.poster) then none
          else t.owner
        known := if ∃ n ∈ s.activeSlots, (s.slot n).state = .driving ∧
            (s.slot n).rect.claims s.config.panelW k = true then false
          else t.known
        count := t.count } := by
  have hconfig : s.allOffered.config = s.config := by simp [State.allOffered]
  rw [(cutAccount_allCut s).tiles k, tiles_allOffered]
  refine congrArg (fun f => Option.map f s.tiles[k]?) (funext fun t => ?_)
  simp only [State.cutTile, slot_mem_admits h, slot_of_slots (slots_allOffered s), hconfig, Tile.mk.injEq, and_true]
  exact if_congr (exists_congr fun n => and_comm) rfl rfl

theorem mem_activeSlots (s : State) (n : Fin 16) :
    n ∈ s.activeSlots ↔ (s.slot n).state = .starting ∨ (s.slot n).state = .driving := by
  simp [State.activeSlots, mem_slotNumbers]

theorem jobs_allCut (s : State) :
    s.allCut.jobs = s.jobs.filter fun j => !decide (j.kind = .snapshot ∧ (s.slot j.slot).state = .starting) := by
  have hjobs : s.allOffered.jobs = s.jobs := by simp [State.allOffered]
  rw [(cutAccount_allCut s).jobs, hjobs]
  refine List.filter_congr fun j _ => ?_
  rw [slot_of_slots (slots_allOffered s)]
  by_cases hst : (s.slot j.slot).state = .starting <;> simp [hst, mem_activeSlots]

theorem plan_allCut (s : State) :
    s.allCut.plan = s.plan.filter fun p => decide ((s.slot p.slot).state ≠ .driving) := by
  have hplan : s.allOffered.plan = s.plan := by simp [State.allOffered]
  rw [(cutAccount_allCut s).plan, hplan]
  refine List.filter_congr fun p _ => ?_
  rw [slot_of_slots (slots_allOffered s)]
  by_cases hst : (s.slot p.slot).state = .driving <;> simp [hst, mem_activeSlots]

/-! ### The whole state -/

/-- The removals of CANCEL_ALL take the queue below 8 entries (R72). -/
abbrev State.cancelQroom (s : State) : Prop := 8 ≤ s.queue.length ∧ (s.queueLeft s.cancelTags).length < 8

/-- The posters whose posts CANCEL_ALL takes, in the order of their offers. -/
def State.cancelTaken (s : State) : List Poster := s.admits (s.cancelPosts.map Post.poster)

/-- The state after CANCEL_ALL, before what follows in the same step. -/
def State.afterCancelAll (s : State) : State :=
  { s.answered 0x03 .accepted with
    completions := s.completions ++ s.admits (s.cancelPosts.map Post.record)
    posters := s.posters ++ (s.cancelPosts.map Post.poster).drop (16 - s.completions.length)
    queue := (s.queueLeft s.cancelTags).map (Entry.cancelled s.cancelTags)
    dispatcher := { s.dispatcher with
      passInProgress := s.dispatcher.passInProgress ||
        decide (s.waitingEntries ≠ [] ∨ ∃ n ∈ s.activeSlots, Poster.slot n ∈ s.cancelTaken) }
    slots := s.allCut.slots
    tiles := s.allCut.tiles
    jobs := s.jobs.filter fun j => !decide (j.kind = .snapshot ∧ (s.slot j.slot).state = .starting)
    plan := s.plan.filter fun p => decide ((s.slot p.slot).state ≠ .driving)
    events := s.events ||| (if s.cancelTaken = [] then 0 else 1) ||| (if s.cancelQroom then 2 else 0)
    load := if s.cancelQroom ∧ s.load.state = .autoPending then
        { s.load with retriesOwed := s.load.retriesOwed + 1 }
      else s.load }

theorem admits_map {α β : Type} (s : State) (f : α → β) (l : List α) : s.admits (l.map f) = (s.admits l).map f :=
  List.map_take.symm

theorem cancelTaken_eq_nil_iff (s : State) : s.cancelTaken = [] ↔ s.admits s.cancelPosts = [] := by
  rw [State.cancelTaken, admits_map, List.map_eq_nil_iff]

theorem slot_mem_cancelTaken_iff (s : State) :
    (∃ n ∈ s.activeSlots, Poster.slot n ∈ s.cancelTaken) ↔
      ∃ p ∈ s.admits s.cancelPosts, ∃ n, p.poster = .slot n := by
  rw [State.cancelTaken, admits_map]
  constructor
  · rintro ⟨n, -, hmem⟩
    obtain ⟨p, hp, hposter⟩ := List.mem_map.mp hmem
    exact ⟨p, hp, n, hposter⟩
  · rintro ⟨p, hp, n, hposter⟩
    refine ⟨n, ?_, List.mem_map.mpr ⟨p, hp, hposter⟩⟩
    rcases List.mem_append.mp (mem_of_mem_admits hp) with hentry | hslot
    · obtain ⟨e, -, rfl⟩ := List.mem_map.mp hentry
      cases hposter
    · obtain ⟨m, hm, rfl⟩ := List.mem_map.mp hslot
      exact Poster.slot.inj hposter ▸ hm

/-- The answer of a command whose effect is an update of the state before it. -/
theorem answered_withRequests {s t : State}
    (h : t = { s with
      queue := t.queue, dispatcher := t.dispatcher, completions := t.completions, posters := t.posters,
      slots := t.slots, tiles := t.tiles, jobs := t.jobs, plan := t.plan, events := t.events, load := t.load })
    (q : List Entry) (d : Dispatcher) (code : Word) (r : Result) :
    (t.withRequests q d).answered code r =
      State.withRequests { s.answered code r with
        completions := t.completions, posters := t.posters, slots := t.slots, tiles := t.tiles, jobs := t.jobs,
        plan := t.plan, events := t.events, load := t.load } q d :=
  congrArg (fun u : State => (u.withRequests q d).answered code r) h

/-- But for the queue and the dispatcher, the state after CANCEL_ALL is as the account of its posts and cuts says. -/
theorem answered_cancelAll {s : State} (h : s.liveTags.Nodup) :
    s.cancelAll.1.answered 0x03 .accepted
      = s.afterCancelAll.withRequests s.cancelAll.1.queue s.cancelAll.1.dispatcher := by
  have hposted := posted_allCut h
  have hcompletions : s.allCut.completions = s.completions ++ s.admits (s.cancelPosts.map Post.record) := by
    rw [admits_map]
    exact hposted.completions
  have hposters : s.allCut.posters
      = s.posters ++ (s.cancelPosts.map Post.poster).drop (16 - s.completions.length) := by
    rw [← List.map_drop]
    exact hposted.posters
  have hevents : s.allCut.events =
      s.events ||| (if s.cancelTaken = [] then 0 else 1) ||| (if s.cancelQroom then 2 else 0) := by
    simp only [cancelTaken_eq_nil_iff, State.cancelQroom, ← fallsBelowFull_allCut h]
    exact hposted.events
  have hload : s.allCut.load = if s.cancelQroom ∧ s.load.state = .autoPending then
      { s.load with retriesOwed := s.load.retriesOwed + 1 }
      else s.load := by
    simp only [State.cancelQroom, ← fallsBelowFull_allCut h]
    exact hposted.load
  rw [State.afterCancelAll, ← hcompletions, ← hposters, ← hevents, ← hload, ← jobs_allCut, ← plan_allCut]
  exact (congrArg (fun u => u.answered 0x03 .accepted) (cancelAll_eq_withRequests s)).trans
    (answered_withRequests (allCut_eq s) _ _ 0x03 .accepted)

theorem cancelled_of_nil (e : Entry) : e.cancelled [] = e.withdrawn := by
  rw [← releasedBy_withdrawn]
  simp [Entry.releasedBy]

/-- CANCEL_ALL's step: the state after it, and what follows, where a pass has nothing left to examine. -/
theorem exec_cancelAll {s : State} (h : s.takes) (hn : s.liveTags.Nodup) :
    exec .cancelAll s = .next s.afterCancelAll.settle := by
  have heffect : exec .cancelAll s = .next (s.cancelAll.1.answered 0x03 .accepted).settle := by
    rw [exec_of_takes h (by simp [route]), State.effect, commanded_cancelAll]
    rfl
  have hrun : s.afterCancelAll.dispatcher.passInProgress = true ↔
      s.dispatcher.passInProgress = true ∨ s.waitingEntries ≠ [] ∨
        ∃ p ∈ s.admits s.cancelPosts, ∃ n, p.poster = .slot n := by
    rw [← slot_mem_cancelTaken_iff]
    simp [State.afterCancelAll]
  rw [heffect]
  refine congrArg _ (settle_eq_of_marks (answered_cancelAll hn) ?_ ?_ (fun hpass => ?_) fun hidle => ?_)
  · exact (plainQueue_cancelAll s).trans (plainQueue_allCut hn)
  · intro e he
    obtain ⟨e', -, rfl⟩ := List.mem_map.mp he
    exact cancelled_state s.cancelTags e'
  · exact passInProgress_cancelAll hn (hrun.mp hpass)
  · rw [← Bool.not_eq_true, hrun, not_or, not_or, not_not] at hidle
    obtain ⟨hstill, hnone, hnoslot⟩ := hidle
    have htaken : s.admits s.cancelPosts = [] := by
      refine List.eq_nil_iff_forall_not_mem.mpr fun p hp => hnoslot ⟨p, hp, ?_⟩
      have hmem := mem_of_mem_admits hp
      rw [State.cancelPosts, hnone] at hmem
      obtain ⟨n, -, rfl⟩ := List.mem_map.mp hmem
      exact ⟨n, rfl⟩
    have htags : s.cancelTags = [] := by rw [State.cancelTags, admits_map, htaken, List.map_nil]
    obtain ⟨hqueue, hdispatcher⟩ := cancelAll_idle hn hnone htaken
    refine ⟨hqueue.trans ?_, hdispatcher.trans ?_⟩
    · simp [State.afterCancelAll, htags, State.queueLeft, funext cancelled_of_nil]
    · have hnotaken : s.cancelTaken = [] := (cancelTaken_eq_nil_iff s).mpr htaken
      simp [State.afterCancelAll, hnone, hnotaken]

/-- Settles O32: the offers and the cuts as one list of posts, whose account is the whole state after CANCEL_ALL. -/
theorem cancelAllWithdrawsAndCuts : Obligations.CancelAllWithdrawsAndCuts := by
  intro s h hn
  refine ⟨s.allCut.slots, s.allCut.tiles, fun n => ?_, fun k => ?_, ?_⟩
  · have hslot := slot_allCut hn n
    rw [posters_cancelPosts] at hslot
    exact hslot
  · have htiles := tiles_allCut hn k
    rw [posters_cancelPosts] at htiles
    exact htiles
  · rw [exec_cancelAll h hn]
    simp only [State.afterCancelAll, State.cancelTaken, State.cancelQroom, State.cancelTags, posters_cancelPosts,
      records_cancelPosts, tags_cancelPosts]
    rfl

end Sys2Proof.Machine

/-! PROOFS. The two pass flags (R75) and what closes every step, part by part (R76, R117, R118, R125): the discharge that
down-pending waits for, the stop of a scan whose state has been left, and the end of a pass. -/

namespace Sys2Proof.Machine

/-! ### The two pass flags (R75) -/

theorem startPass_of_idle {s : State} (h : s.dispatcher.passInProgress = false) :
    s.startPass = { s with
      queue := s.queue.map fun e => { e with due := true }, dispatcher := ⟨true, s.dispatcher.passOwed⟩ } := by
  rw [State.startPass, h]
  rfl

theorem startPass_of_running {s : State} (h : s.dispatcher.passInProgress = true) :
    s.startPass = { s with dispatcher := { s.dispatcher with passOwed := true } } :=
  if_pos h

/-! ### The discharge and the scan (R117, R118, R125) -/

theorem anyActive_eq_false_iff (s : State) :
    s.anyActive = false ↔ ∀ n, (s.slot n).state ≠ .starting ∧ (s.slot n).state ≠ .driving := by
  simp [← Bool.not_eq_true, anyActive_iff, Slot.active]

theorem dischargeIfDue_of_due {s : State} (hon : s.power.state = .on) (hdown : s.power.downPending = true)
    (hinactive : s.anyActive = false) : s.dischargeIfDue = s.enterDischarging :=
  if_pos ⟨hon, hdown, by simp [hinactive]⟩

theorem dischargeIfDue_of_not_due {s : State} (h : s.noneDue) : s.dischargeIfDue = s :=
  if_neg fun ⟨hon, hdown, hinactive⟩ => h ⟨hon, hdown, by simpa using hinactive⟩

/-- A scan of either kind has been left by the sequencer (R118). -/
theorem home_ne_iff (k : ScanKind) (p : PowerState) :
    k.home ≠ p ↔ (k = .drive ∧ p ≠ .on) ∨ (k = .discharge ∧ p ≠ .discharging) := by
  cases k <;> simp [ScanKind.home, eq_comm]

/-- A scan whose state has been left stops with no frame start held: the port goes idle and nothing else follows. -/
theorem stopScanIfLeft_of_left {s : State} {sc : Scan} (h : s.scan = some sc) (hleft : sc.kind.home ≠ s.power.state)
    (hheld : s.frame.held = false) : s.stopScanIfLeft = { s with scan := none } := by
  simp [State.stopScanIfLeft, h, hleft, State.endScan, hheld]

/-- A scan whose state has been left delivers the frame start that it held, late (R117). -/
theorem stopScanIfLeft_of_left_held {s : State} {sc : Scan} (h : s.scan = some sc)
    (hleft : sc.kind.home ≠ s.power.state) (hheld : s.frame.held = true) :
    s.stopScanIfLeft =
      State.deliverFrame { s with scan := none, events := s.events ||| (1#10 <<< 9) } .regionFirst := by
  simp only [State.stopScanIfLeft, h, hleft, if_false, State.endScan, hheld, if_true]
  rfl

/-! ### The end of a pass (R75, R76) -/

theorem any_toExamine_iff (s : State) :
    s.queue.any Entry.toExamine = true ↔ ∃ e ∈ s.queue, e.due = true ∧ e.state = .waiting := by
  simp [Entry.toExamine]

theorem any_toExamine_eq_false_iff (s : State) :
    s.queue.any Entry.toExamine = false ↔ ∀ e ∈ s.queue, e.due = true → e.state ≠ .waiting := by
  simp [Entry.toExamine]

/-- Without a pass, or with an entry that the pass has still to reach, the end of a step begins and ends none. -/
theorem settle_of_pass_open {s : State}
    (h : s.dispatcher.passInProgress = false ∨ ∃ e ∈ s.queue, e.due = true ∧ e.state = .waiting) :
    s.settle = s.dischargeIfDue.stopScanIfLeft := by
  refine if_neg ?_
  rw [← any_toExamine_iff] at h
  rcases h with h | h <;> simp [h]

/-- A pass that has reached every entry it was given gives way to an owed one, over the queue as it stands. -/
theorem settle_of_pass_owed {s : State} (hpass : s.dispatcher.passInProgress = true)
    (hdone : ∀ e ∈ s.queue, e.due = true → e.state ≠ .waiting) (howed : s.dispatcher.passOwed = true)
    (hwait : ∃ e ∈ s.queue, e.state = .waiting) :
    s.settle = s.dischargeIfDue.stopScanIfLeft.withRequests (s.queue.map fun e => { e with due := true })
      ⟨true, false⟩ := by
  have hany : (s.queue.any fun e => e.state == .waiting) = true := by simpa using hwait
  rw [← any_toExamine_eq_false_iff] at hdone
  simp [State.settle, State.endPassIfDone, hpass, hdone, howed, hany, State.markDue, State.withRequests]

/-- A pass that has reached every entry it was given ends, with none owed that has a WAITING entry to examine. -/
theorem settle_of_pass_ended {s : State} (hpass : s.dispatcher.passInProgress = true)
    (hdone : ∀ e ∈ s.queue, e.due = true → e.state ≠ .waiting)
    (hnone : ¬(s.dispatcher.passOwed = true ∧ ∃ e ∈ s.queue, e.state = .waiting)) :
    s.settle = s.dischargeIfDue.stopScanIfLeft.withRequests (s.queue.map fun e => { e with due := false })
      ⟨false, false⟩ := by
  have hany : (s.dispatcher.passOwed && s.queue.any fun e => e.state == .waiting) = false := by simpa using hnone
  rw [← any_toExamine_eq_false_iff] at hdone
  simp [State.settle, State.endPassIfDone, hpass, hdone, hany, State.markDue, State.withRequests]

/-- Settles O35: the pass flags by their two cases, then the discharge, the scan and the pass in the order in which
`State.settle` takes them. -/
theorem passesBeginAndEnd : Obligations.PassesBeginAndEnd := by
  refine ⟨fun _ => startPass_of_idle, fun _ => startPass_of_running, fun s => ?_⟩
  intro inactive d u
  have hd : d = s.dischargeIfDue := by
    by_cases hdue : s.power.state = .on ∧ s.power.downPending = true ∧ inactive
    · obtain ⟨hon, hdown, hinactive⟩ := hdue
      rw [dischargeIfDue_of_due hon hdown ((anyActive_eq_false_iff s).mpr hinactive)]
      exact if_pos ⟨hon, hdown, hinactive⟩
    · have hnone : s.noneDue := by rwa [State.noneDue, anyActive_eq_false_iff]
      rw [dischargeIfDue_of_not_due hnone]
      exact if_neg hdue
  have hu : u = s.dischargeIfDue.stopScanIfLeft := by
    rw [← hd]
    simp only [u]
    cases hscan : d.scan with
    | none => exact (stopScanIfLeft_of_none hscan).symm
    | some sc =>
      dsimp only
      by_cases hhome : sc.kind.home = d.power.state
      · rw [if_neg (mt (home_ne_iff _ _).mpr (not_not.mpr hhome)), stopScanIfLeft_of_home hscan hhome]
      · rw [if_pos ((home_ne_iff _ _).mp hhome)]
        split
        · rename_i hheld
          rw [stopScanIfLeft_of_left_held hscan hhome hheld]
        · rename_i hheld
          rw [stopScanIfLeft_of_left hscan hhome (by simpa using hheld)]
  rw [hu]
  refine ⟨settle_of_pass_open, fun hpass hdone => ?_⟩
  split
  · rename_i howed
    exact settle_of_pass_owed hpass hdone howed.1 howed.2
  · rename_i hnone
    exact settle_of_pass_ended hpass hdone hnone

end Sys2Proof.Machine

/-! PROOFS. The waiting conditions of an entry (R78, R79), and the examination of the entry that the pass has reached,
in the order of its decisions (R77): held, with or without a wake request; rejected; started. -/

namespace Sys2Proof.Machine

/-! ### The waiting conditions (R78, R79) -/

theorem knownBand_eq_some_iff (s : State) (b : Fin 8) : s.knownBand = some b ↔ s.temp.current = some (.band b) := by
  unfold State.knownBand
  split
  · rename_i c hc
    simp [hc]
  · rename_i hno
    simpa using hno b

theorem knownBand_isNone_iff (s : State) : s.knownBand.isNone = true ↔ ∀ b, s.temp.current ≠ some (.band b) := by
  simp [Option.eq_none_iff_forall_ne_some, knownBand_eq_some_iff]

theorem freeSlot_isNone_iff (s : State) : s.freeSlot.isNone = true ↔ ∀ n, (s.slot n).state ≠ .free := by
  simp [State.freeSlot, mem_slotNumbers]

/-- The slot found is the lowest-numbered FREE slot (R87). -/
theorem freeSlot_eq_some {s : State} {n : Fin 16} (hfree : (s.slot n).state = .free)
    (hlowest : ∀ n', n' < n → (s.slot n').state ≠ .free) : s.freeSlot = some n := by
  rw [State.freeSlot, slotNumbers_eq_finRange, List.find?_eq_some_iff_getElem]
  exact ⟨by simp [hfree], n.val, by simp, by simp, fun j hj => by simpa using hlowest ⟨j, hj.trans n.isLt⟩ hj⟩

theorem blockedAhead_iff (s : State) (i : Nat) (r : Rect) :
    s.blockedAhead i r = true ↔
      ∃ j e', j < i ∧ s.queue[j]? = some e' ∧ e'.state = .waiting ∧ e'.rect.meets r = true := by
  simp only [State.blockedAhead, List.any_eq_true, Bool.and_eq_true, beq_iff_eq, List.mem_iff_getElem?,
    List.getElem?_take, Option.ite_none_right_eq_some]
  exact ⟨fun ⟨e', ⟨j, hj, hget⟩, hmeets⟩ => ⟨j, e', hj, hget, hmeets⟩,
    fun ⟨j, e', hj, hget, hmeets⟩ => ⟨e', ⟨j, hj, hget⟩, hmeets⟩⟩

/-- The waiting conditions of R78 other than the Power Sequencer's. -/
theorem hindered_iff (s : State) (i : Nat) (e : Entry) :
    s.hindered i e = true ↔
      e.afterTag ≠ 0 ∨ (∀ b, s.temp.current ≠ some (.band b)) ∨ (∀ n, (s.slot n).state ≠ .free) ∨
        (∃ k t, s.tiles[k]? = some t ∧ e.rect.claims s.config.panelW k = true ∧ t.owner.isSome = true) ∨
        (∃ j e', j < i ∧ s.queue[j]? = some e' ∧ e'.state = .waiting ∧ e'.rect.meets e.rect = true) := by
  simp only [State.hindered, Bool.or_eq_true, bne_iff_ne, knownBand_isNone_iff, freeSlot_isNone_iff, anyClaimed_iff,
    blockedAhead_iff, or_assoc]

theorem hindered_eq_false {s : State} {i : Nat} {e : Entry} {b : Fin 8} (hafter : e.afterTag = 0)
    (hband : s.temp.current = some (.band b)) (hslot : ∃ n, (s.slot n).state = .free)
    (hclear : ∀ k t, s.tiles[k]? = some t → e.rect.claims s.config.panelW k = true → t.owner = none)
    (hahead : ∀ j e', j < i → s.queue[j]? = some e' → e'.state = .waiting → e'.rect.meets e.rect = false) :
    s.hindered i e = false := by
  rw [← Bool.not_eq_true, hindered_iff]
  rintro (h | h | h | ⟨k, t, hk, hc, ho⟩ | ⟨j, e', hj, hget, hw, hm⟩)
  · exact h hafter
  · exact h b hband
  · exact hslot.elim h
  · simp [hclear k t hk hc] at ho
  · simp [hahead j e' hj hget hw] at hm

theorem powerReady_iff (s : State) : s.powerReady = true ↔ s.power.state = .on ∧ s.power.downPending = false := by
  simp [State.powerReady]

/-! ### The entry that the pass has reached (R76) -/

/-- The pass of a running part has reached the entry at position i, the first that it has still to examine (R76). -/
structure State.PassReaches (s : State) (i : Nat) (e : Entry) : Prop where
  runs : s.runs
  pass : s.dispatcher.passInProgress = true
  entry : s.queue[i]? = some e
  due : e.due = true
  waiting : e.state = .waiting
  first : ∀ j e', j < i → s.queue[j]? = some e' → ¬(e'.due = true ∧ e'.state = .waiting)

theorem State.PassReaches.lt {s : State} {i : Nat} {e : Entry} (h : s.PassReaches i e) : i < s.queue.length :=
  (List.getElem?_eq_some_iff.mp h.entry).1

theorem examineNext_of_passReaches {s : State} {i : Nat} {e : Entry} (h : s.PassReaches i e) :
    s.examineNext = s.examine i e := by
  have hindex : s.queue.findIdx? Entry.toExamine = some i := by
    obtain ⟨hlt, hget⟩ := List.getElem?_eq_some_iff.mp h.entry
    have hexamine : Entry.toExamine s.queue[i] = true := by simp [hget, Entry.toExamine, h.due, h.waiting]
    refine List.findIdx?_eq_some_iff_getElem.mpr ⟨hlt, hexamine, fun j hj => ?_⟩
    simpa [Entry.toExamine] using h.first j _ hj (List.getElem?_eq_getElem (hj.trans hlt))
  simp only [State.examineNext, h.pass, if_true, hindex, h.entry]

/-- An examination's step: the examination of the entry reached, and what follows. -/
theorem exec_entryExamination {s : State} {i : Nat} {e : Entry} (h : s.PassReaches i e) :
    exec .entryExamination s = .next (s.examine i e).settle := by
  rw [exec_running_event rfl h.runs.1, State.effect, examineNext_of_passReaches h]

theorem modify_eq_set {q : List Entry} {i : Nat} {e : Entry} (h : q[i]? = some e) (f : Entry → Entry) :
    q.modify i f = q.set i (f e) := by
  rw [List.modify_eq_set_getElem?, h]
  rfl

theorem reached_eq_set {s : State} {i : Nat} {e : Entry} (h : s.queue[i]? = some e) :
    s.reached i = { s with queue := s.queue.set i { e with due := false } } := by
  rw [State.reached, modify_eq_set h]

theorem plainQueue_reached (s : State) (i : Nat) : (s.reached i).plainQueue = s.plainQueue := by
  have hmark : Entry.plain ∘ (fun e => { e with due := false }) = Entry.plain := rfl
  refine List.ext_getElem? fun j => ?_
  by_cases hj : i = j <;> simp [State.plainQueue, State.reached, hj, hmark]

/-- The mark that the pass clears is no part of a waiting condition. -/
theorem hindered_reached (s : State) (i : Nat) (e : Entry) : (s.reached i).hindered i e = s.hindered i e := by
  have htake : (s.reached i).queue.take i = s.queue.take i := by
    refine List.ext_getElem? fun j => ?_
    by_cases hj : j < i
    · simp [State.reached, hj, hj.ne']
    · simp [hj]
  have hahead : (s.reached i).blockedAhead i e.rect = s.blockedAhead i e.rect := by
    rw [State.blockedAhead, htake, State.blockedAhead]
  rw [State.hindered, hahead]
  rfl

/-! ### The examination in the order of its decisions (R77, R78, R80) -/

section Examination

variable {s : State} {i : Nat} {e : Entry}

theorem examine_of_hindered (h : s.hindered i e = true) : s.examine i e = s.reached i :=
  if_pos ((hindered_reached s i e).trans h)

theorem not_hindered_reached (h : s.hindered i e = false) : ¬(s.reached i).hindered i e = true := by
  rw [hindered_reached, h]
  exact Bool.false_ne_true

/-- The sequencer is the entry's one hindrance: held, with a wake request where it is not ON and may be woken (R80). -/
theorem examine_of_not_ready (h : s.hindered i e = false) (hpower : s.powerReady = false) :
    s.examine i e =
      if s.bus.autoWake && s.power.state != .on then (s.reached i).wakeRequest else s.reached i := by
  have hready : (!(s.reached i).powerReady) = true := congrArg Bool.not hpower
  exact (if_neg (not_hindered_reached h)).trans (if_pos hready)

/-- An entry that meets no waiting condition is decided, with the band and the FREE slot found (R81, R87). -/
theorem examine_of_ready (h : s.hindered i e = false) (hpower : s.powerReady = true) {b : Fin 8} {n : Fin 16}
    (hband : s.knownBand = some b) (hslot : s.freeSlot = some n) :
    s.examine i e = (s.reached i).decideEntry i e b n := by
  have hready : (!(s.reached i).powerReady) = false := congrArg Bool.not hpower
  have hband' : (s.reached i).knownBand = some b := hband
  have hslot' : (s.reached i).freeSlot = some n := hslot
  refine (if_neg (not_hindered_reached h)).trans ((if_neg (Bool.eq_false_iff.mp hready)).trans ?_)
  change (match (s.reached i).knownBand, (s.reached i).freeSlot with
    | some b, some n => (s.reached i).decideEntry i e b n
    | _, _ => s.reached i) = _
  rw [hband', hslot']

end Examination

/-- Settles O36: the waiting conditions one by one, then the Power Sequencer as the one hindrance. -/
theorem examinationHolds : Obligations.ExaminationHolds := by
  intro s i e hruns hpass hentry hdue hwait hfirst seen hindered
  have hreaches : s.PassReaches i e := ⟨hruns, hpass, hentry, hdue, hwait, hfirst⟩
  have hseen : seen = s.reached i := (reached_eq_set hentry).symm
  have hnot : ¬hindered → s.hindered i e = false := fun h => by rwa [← Bool.not_eq_true, hindered_iff]
  rw [exec_entryExamination hreaches, hseen]
  refine ⟨fun h => ?_, fun h hon hdown => ?_, fun h hoff hauto => ?_, fun h hoff hauto => ?_, plainQueue_reached s i⟩
  · rw [examine_of_hindered ((hindered_iff s i e).mpr h)]
  · rw [examine_of_not_ready (hnot h) (by simp [State.powerReady, hdown]), if_neg (by simp [hon])]
  · rw [examine_of_not_ready (hnot h) (by simp [State.powerReady, hoff]), if_neg (by simp [hauto])]
  · rw [examine_of_not_ready (hnot h) (by simp [State.powerReady, hoff]), if_pos (by simp [hoff, hauto])]

/-! ### The decision (R81 to R87) -/

theorem needsPromotion_iff (s : State) (e : Entry) :
    s.needsPromotion e = true ↔ (s.mode e.mode).flash = false ∧
      ∃ k t, s.tiles[k]? = some t ∧ e.rect.claims s.config.panelW k = true ∧
        (t.known = false ∨ (s.config.partialLimit ≠ 0 ∧ s.config.partialLimit ≤ t.count)) := by
  simp [State.needsPromotion, anyClaimed_iff]

theorem cleanUsable_iff (s : State) (b : Fin 8) :
    s.cleanUsable b = true ↔ (s.mode s.config.cleanMode).state = .ready ∧ (s.mode s.config.cleanMode).flash = true ∧
      (s.mode s.config.cleanMode).bandSet.getLsbD b = true := by
  simp [State.cleanUsable, Descriptor.hasBand, and_assoc]

section Decision

variable {s : State} {i : Nat} {e : Entry} {b : Fin 8} {n : Fin 16}

theorem decideEntry_of_no_band (h : (s.mode e.mode).hasBand b = false) :
    s.decideEntry i e b n = s.reject i e .bandUnsupported := by
  simp [State.decideEntry, h]

theorem decideEntry_of_noPromote (h : (s.mode e.mode).hasBand b = true) (hneeds : s.needsPromotion e = true)
    (hno : e.noPromote = true) : s.decideEntry i e b n = s.reject i e .needsClean := by
  simp [State.decideEntry, h, hneeds, hno]

theorem decideEntry_of_no_clean (h : (s.mode e.mode).hasBand b = true) (hneeds : s.needsPromotion e = true)
    (hmay : e.noPromote = false) (hclean : s.cleanUsable b = false) :
    s.decideEntry i e b n = s.reject i e .cleanUnavailable := by
  simp [State.decideEntry, h, hneeds, hmay, hclean]

theorem decideEntry_of_promoted (h : (s.mode e.mode).hasBand b = true) (hneeds : s.needsPromotion e = true)
    (hmay : e.noPromote = false) (hclean : s.cleanUsable b = true) :
    s.decideEntry i e b n = s.startRegion i n
      (s.startedSlot e s.config.cleanMode b e.rect.union true (decide (e.rect.union ≠ e.rect))) := by
  simp [State.decideEntry, h, hneeds, hmay, hclean]

theorem decideEntry_of_plain (h : (s.mode e.mode).hasBand b = true) (hneeds : s.needsPromotion e = false) :
    s.decideEntry i e b n = s.startRegion i n (s.startedSlot e e.mode b e.rect false false) := by
  simp [State.decideEntry, h, hneeds]

end Decision

/-- The step of an examination that no waiting condition holds: the decision over the queue with the entry reached. -/
theorem exec_of_ready {s : State} {i : Nat} {e : Entry} (h : s.PassReaches i e) (hfree : s.hindered i e = false)
    (hon : s.power.state = .on) (hdown : s.power.downPending = false) {b : Fin 8} {n : Fin 16}
    (hband : s.temp.current = some (.band b)) (hslot : s.freeSlot = some n) :
    exec .entryExamination s = .next ((s.reached i).decideEntry i e b n).settle := by
  rw [exec_entryExamination h, examine_of_ready hfree ((powerReady_iff s).mpr ⟨hon, hdown⟩)
    ((knownBand_eq_some_iff s b).mpr hband) hslot]

/-- A rejection of the entry reached, with its state and its mark written at once (R86). -/
theorem reject_reached {s : State} {i : Nat} {e : Entry} (h : s.queue[i]? = some e) (r : RejectReason) :
    (s.reached i).reject i e r =
      State.offer { s with queue := s.queue.set i { e with due := false, state := .rejecting r } } (.entry e.tag) := by
  obtain ⟨hlt, -⟩ := List.getElem?_eq_some_iff.mp h
  have hset : (s.queue.set i { e with due := false })[i]? = some { e with due := false } := by simp [hlt]
  rw [State.reject, State.setEntryState, reached_eq_set h, modify_eq_set hset, List.set_set]

/-- Settles O37: the band test, the promotion test with NO_PROMOTE, and the clean mode. -/
theorem examinationRejects : Obligations.ExaminationRejects := by
  intro s i e b hruns hpass hentry hdue hwait hfirst hafter hband hslot hclear hahead hon hdown rejected needsPromotion
    clean cleanUsable
  have hreaches : s.PassReaches i e := ⟨hruns, hpass, hentry, hdue, hwait, hfirst⟩
  have hfree : s.hindered i e = false := hindered_eq_false hafter hband hslot hclear hahead
  obtain ⟨n, hn⟩ : ∃ n, s.freeSlot = some n := by
    refine Option.ne_none_iff_exists'.mp fun hnone => ?_
    exact hslot.elim ((freeSlot_isNone_iff s).mp (Option.isNone_iff_eq_none.mpr hnone))
  have hpromotion : needsPromotion → (s.reached i).needsPromotion e = true := (needsPromotion_iff (s.reached i) e).mpr
  rw [exec_of_ready hreaches hfree hon hdown hband hn]
  refine ⟨fun hno => ?_, fun hhas hneeds hno => ?_, fun hhas hneeds hmay hclean => ?_⟩
  · rw [decideEntry_of_no_band (s := s.reached i) hno, reject_reached hentry]
  · rw [decideEntry_of_noPromote (s := s.reached i) hhas (hpromotion hneeds) hno, reject_reached hentry]
  · have hunusable : (s.reached i).cleanUsable b = false :=
      Bool.eq_false_iff.mpr fun h => hclean ((cleanUsable_iff (s.reached i) b).mp h)
    rw [decideEntry_of_no_clean (s := s.reached i) hhas (hpromotion hneeds) hmay hunusable, reject_reached hentry]

/-! ### The start (R87 to R89) -/

/-- The state after the start of the entry reached, field by field, and nothing else changed. -/
theorem startRegion_reached {s : State} {i : Nat} (hi : i < s.queue.length) (n : Fin 16) {sl : Slot} {e : Entry}
    (hsl : sl.startsOver e) :
    let u := (s.reached i).startRegion i n sl
    u.slot n = sl ∧ (∀ n', n' ≠ n → u.slot n' = s.slot n') ∧
      (∀ k : Nat, u.tiles[k]? = s.tiles[k]?.map fun t =>
        if e.rect.claims s.config.panelW k = true then ⟨some n, t.known, t.count⟩ else t) ∧
      u.jobs = s.jobs ++ [⟨n, .snapshot, 0, none⟩] ∧
      u.queue = s.queue.eraseIdx i ∧
      u.events = (if s.queue.length = 8 then s.events ||| 2 else s.events) ∧
      u.load = (if s.queue.length = 8 ∧ s.load.state = .autoPending then
          { s.load with retriesOwed := s.load.retriesOwed + 1 }
        else s.load) ∧
      { u with
        slots := s.slots, tiles := s.tiles, jobs := s.jobs, queue := s.queue, events := s.events,
        load := s.load } = s := by
  intro u
  have hu : u = ((s.reached i).claimedStart n sl).removeEntry i := startRegion_eq _ i n sl
  have hlen : ((s.reached i).claimedStart n sl).queue.length = s.queue.length := List.length_modify _ s.queue i
  obtain ⟨hevents, hload⟩ := removeEntry_flags ((s.reached i).claimedStart n sl) (hlen ▸ hi)
  rw [hlen] at hevents hload
  refine ⟨?_, fun n' hn' => ?_, fun k => ?_, ?_, ?_, hu ▸ hevents, hu ▸ hload, ?_⟩
  · exact (slot_startRegion _ i n n sl).trans (if_pos rfl)
  · exact (slot_startRegion _ i n n' sl).trans (if_neg hn')
  · have htiles : u.tiles = ((s.reached i).claimedStart n sl).tiles := by rw [hu]; simp
    rw [htiles, tiles_claimedStart]
    simp only [hsl.claims]
    rfl
  · have hjobs : u.jobs = ((s.reached i).claimedStart n sl).jobs := by rw [hu]; simp
    exact hjobs
  · refine (queue_startRegion _ i n sl).trans ?_
    rw [reached_eq_set (List.getElem?_eq_getElem hi), List.eraseIdx_set_eq]
  · rw [hu, State.removeEntry]
    dsimp only
    split
    · split <;> rfl
    · rfl

/-- Settles O38: the plain start and the promoted start, each with the account of the start in the lowest-numbered FREE
slot. -/
theorem examinationStarts : Obligations.ExaminationStarts := by
  intro s i e b n hruns hpass hentry hdue hwait hfirst hafter hband hslot hlowest hclear hahead hon hdown hhas
    needsPromotion clean cleanUsable started
  have hreaches : s.PassReaches i e := ⟨hruns, hpass, hentry, hdue, hwait, hfirst⟩
  have hfree : s.hindered i e = false := hindered_eq_false hafter hband ⟨n, hslot⟩ hclear hahead
  have hexec := exec_of_ready hreaches hfree hon hdown hband (freeSlot_eq_some hslot hlowest)
  refine ⟨fun hneeds => ?_, fun hneeds hmay hclean => ?_⟩
  · have hplain : (s.reached i).needsPromotion e = false :=
      Bool.eq_false_iff.mpr fun h => hneeds ((needsPromotion_iff (s.reached i) e).mp h)
    rw [decideEntry_of_plain (s := s.reached i) hhas hplain] at hexec
    exact ⟨_, hexec, startRegion_reached hreaches.lt n ⟨rfl, rfl, rfl, fun _ _ => rfl⟩⟩
  · rw [decideEntry_of_promoted (s := s.reached i) hhas ((needsPromotion_iff (s.reached i) e).mpr hneeds) hmay
      ((cleanUsable_iff (s.reached i) b).mpr hclean)] at hexec
    exact ⟨_, hexec, startRegion_reached hreaches.lt n ⟨rfl, rfl, rfl, claims_union e.rect⟩⟩

end Sys2Proof.Machine

/-! PROOFS. READY modes pass the Table Checker (R42, R47): what a check reads, and what keeps a clean check clean over
every command and event. -/

namespace Sys2Proof.Machine

/-! ### A check that finds nothing (R49) -/

theorem checkDefect_eq_none_iff (s : State) (m : Fin 8) :
    s.checkDefect m = none ↔
      ¬(s.mode m).bandless ∧ ¬(s.mode m).badFrameCount ∧ ¬(s.mode m).badRowRange ∧ ¬s.hasEntryBeyond m ∧
        ¬s.hasGroundCode m ∧ s.checkSum m = (s.mode m).checkWord := by
  by_cases hb : (s.mode m).bandless
  · simp [checkDefect_of_bandless hb, hb]
  by_cases hf : (s.mode m).badFrameCount
  · simp [checkDefect_of_frameCount hb hf, hf]
  by_cases hr : (s.mode m).badRowRange
  · simp [checkDefect_of_rowRange hb hf hr, hr]
  rw [checkDefect_of_sound hb hf hr]
  simp only [hb, hf, hr, not_false_eq_true, true_and, ← entryOutOfRange_iff, ← groundUsed_iff]
  repeat' split
  all_goals simp [*]

/-- The frame counts of the bands of a mode that passes are 1 to 64 (R49). -/
theorem frameCount_of_sound {s : State} {m : Fin 8} (h : s.checkDefect m = none) {b : Fin 8}
    (hb : (s.mode m).hasBand b = true) :
    1 ≤ ((s.mode m).frameCounts[b]).toNat ∧ ((s.mode m).frameCounts[b]).toNat ≤ 64 := by
  obtain ⟨-, hframes, -⟩ := (checkDefect_eq_none_iff s m).mp h
  by_contra hbad
  exact hframes ⟨b, hb, by omega⟩

/-- In a mode that passes, no lookup below the frame count of a band of the mode gives GROUND (R41, R42). -/
theorem driveLookup_ne_ground {s : State} {m b : Fin 8} (h : s.checkDefect m = none)
    (hb : (s.mode m).hasBand b = true) {i : Nat} (hi : i < ((s.mode m).frameCounts[b]).toNat) (f t : Level) :
    s.driveLookup m b i f t ≠ .ground := by
  obtain ⟨-, -, -, -, hground, -⟩ := (checkDefect_eq_none_iff s m).mp h
  unfold State.driveLookup
  split
  · simp
  · split
    · simp
    · rename_i o ho
      exact fun hcode => hground ⟨b, hb, f.toNat * 16 + t.toNat, o, i, by omega, ho, hi, hcode⟩

/-! ### What a check reads -/

/-- A check of mode m reads the same in both states: the descriptor but for its state and bad reason, the pair maps, and
the words of the rows in the row range (R49, R50). -/
structure State.sameTables (s t : State) (m : Fin 8) : Prop where
  mode : ∃ st r, t.mode m = { s.mode m with state := st, badReason := r }
  pairs : ∀ b i, i < 256 → t.pairEntry m b i = s.pairEntry m b i
  rows : ∀ k, (s.mode m).inRange (k / 8) = true → t.rowWordAt k = s.rowWordAt k

theorem inRange_iff (d : Descriptor) (r : Nat) :
    d.inRange r = true ↔ d.rowBase.toNat ≤ r ∧ r < d.rowBase.toNat + d.rowCount.toNat ∧ r < 2048 := by
  simp only [Descriptor.inRange, Bool.and_eq_true, decide_eq_true_eq, and_assoc]
  rfl

/-- Tables that read the same have no new defect. -/
theorem checkDefect_none_of_sameTables {s t : State} {m : Fin 8} (hst : s.sameTables t m)
    (h : s.checkDefect m = none) : t.checkDefect m = none := by
  obtain ⟨⟨st, r, hmode⟩, hpairs, hrows⟩ := hst
  rw [checkDefect_eq_none_iff] at h ⊢
  obtain ⟨hb, hf, hr, hentry, hground, hsum⟩ := h
  have hbase : (s.mode m).rowBase.toNat + (s.mode m).rowCount.toNat ≤ 2048 :=
    Nat.not_lt.mp fun h => hr (.inr h)
  have hwords : ∀ k, k < 8 * (s.mode m).rowCount.toNat →
      t.rowWordAt (8 * (s.mode m).rowBase.toNat + k) = s.rowWordAt (8 * (s.mode m).rowBase.toNat + k) :=
    fun k hk => hrows _ ((inRange_iff _ _).mpr (by omega))
  refine ⟨by rw [hmode]; exact hb, by rw [hmode]; exact hf, by rw [hmode]; exact hr, ?_, ?_, ?_⟩
  · rintro ⟨b, hset, i, o, hi, ho, hle⟩
    rw [hmode] at hset hle
    exact hentry ⟨b, hset, i, o, hi, hpairs b i hi ▸ ho, hle⟩
  · rintro ⟨b, hset, i, o, k, hi, ho, hk, hcode⟩
    rw [hpairs b i hi] at ho
    rw [hmode] at hset hk hcode
    dsimp only at hset hk hcode
    have hin : o.toNat < (s.mode m).rowCount.toNat := Nat.not_le.mp fun hle => hentry ⟨b, hset, i, o, hi, ho, hle⟩
    have hcount := not_or.mp fun hbad => hf ⟨b, hset, hbad⟩
    refine hground ⟨b, hset, i, o, k, hi, ho, hk, ?_⟩
    rw [← hcode, State.rowCode, State.rowCode, hrows _ ((inRange_iff _ _).mpr (by omega))]
  · have hpairSums : ∀ b, ∑ i ∈ Finset.range 256, pairNumber (t.pairEntry m b i)
        = ∑ i ∈ Finset.range 256, pairNumber (s.pairEntry m b i) := fun b =>
      Finset.sum_congr rfl fun i hi => by rw [hpairs b i (Finset.mem_range.mp hi)]
    have hrowSum : ∑ k ∈ Finset.range (8 * (s.mode m).rowCount.toNat),
          (t.rowWordAt (8 * (s.mode m).rowBase.toNat + k)).toNat
        = ∑ k ∈ Finset.range (8 * (s.mode m).rowCount.toNat),
          (s.rowWordAt (8 * (s.mode m).rowBase.toNat + k)).toNat :=
      Finset.sum_congr rfl fun k hk => by rw [hwords k (Finset.mem_range.mp hk)]
    have hcheck : t.checkSum m = s.checkSum m := by
      refine BitVec.eq_of_toNat_eq ?_
      simp only [toNat_checkSum, hmode, hpairSums, hrowSum]
    rw [hcheck, hmode]
    exact hsum

/-! ### READY modes over the operations of the Waveform Store -/

theorem pairEntry_of_store {s t : State} (hm : t.store = s.store) (hf : t.freeIndex = s.freeIndex) (m b : Fin 8)
    (i : Nat) : t.pairEntry m b i = s.pairEntry m b i := by
  simp [State.pairEntry, State.pairAt, hm, hf]

/-- A mode that is READY was READY before, with the same tables. -/
theorem readyModesSound_mono {s t : State} (h : s.readyModesSound)
    (hm : ∀ m, (t.mode m).state = .ready → (s.mode m).state = .ready ∧ s.sameTables t m) : t.readyModesSound :=
  fun m hready => checkDefect_none_of_sameTables (hm m hready).2 (h m (hm m hready).1)

/-- Only descriptors change, and those of READY modes not at all. -/
theorem readyModesSound_of_modes {s t : State} (h : s.readyModesSound) (hf : t.freeIndex = s.freeIndex)
    (hp : t.store.pairs = s.store.pairs) (hr : t.store.rows = s.store.rows)
    (hm : ∀ m, (t.mode m).state = .ready → t.mode m = s.mode m) : t.readyModesSound :=
  readyModesSound_mono h fun m hready => ⟨hm m hready ▸ hready, ⟨_, _, hm m hready⟩,
    fun _ _ _ => by simp [State.pairEntry, State.pairAt, hf, hp], fun _ _ => by simp [State.rowWordAt, hf, hr]⟩

theorem readyModesSound_of_same {s t : State} (hm : t.store = s.store) (hf : t.freeIndex = s.freeIndex)
    (h : s.readyModesSound) : t.readyModesSound :=
  readyModesSound_of_modes h hf (by rw [hm]) (by rw [hm]) fun m _ => mode_of_store hm m

theorem readyModesSound_startPass {s : State} (h : s.readyModesSound) : s.startPass.readyModesSound :=
  readyModesSound_of_same (by simp) (by simp) h

theorem readyModesSound_setMode {s : State} (h : s.readyModesSound) (m : Fin 8) {d : Descriptor}
    (hd : d.state ≠ .ready) : (s.setMode m d).readyModesSound := by
  refine readyModesSound_of_modes (s := s) h rfl rfl rfl fun k hk => ?_
  rw [mode_setMode] at hk ⊢
  split
  · rename_i hkm
    rw [if_pos hkm] at hk
    exact absurd hk hd
  · rfl

/-- MODE_CHECK leaves the mode CHECKING (R48). -/
theorem readyModesSound_modeCheck {s : State} (h : s.readyModesSound) : s.modeCheck.1.readyModesSound := by
  unfold State.modeCheck
  split
  · exact h
  · split
    · exact h
    · split
      · exact h
      · exact readyModesSound_setMode h _ (by simp)

/-- MODE_ERASE leaves the mode EMPTY (R53). -/
theorem readyModesSound_modeErase {s : State} (h : s.readyModesSound) : s.modeErase.1.readyModesSound := by
  unfold State.modeErase
  split
  · exact h
  · split
    · exact h
    · split
      · exact h
      · exact readyModesSound_setMode h _ (by simp [Descriptor.zeroed])

/-- A check that ends READY has found no defect in the tables as they stand (R51; log 21). -/
theorem readyModesSound_endCheck {s : State} (h : s.readyModesSound) : s.endCheck.readyModesSound := by
  cases hm : s.checking with
  | none =>
    simp only [State.endCheck, hm]
    exact h
  | some m =>
    cases hdefect : s.checkDefect m with
    | some r =>
      rw [endCheck_of_some hm hdefect]
      exact readyModesSound_of_modes (readyModesSound_setMode h m (d := { s.mode m with state := .bad, badReason := r })
        (by simp)) rfl rfl rfl fun k _ => (mode_checkEnded s m k _ _).trans (mode_setMode s m k _).symm
    | none =>
      rw [endCheck_of_none hm hdefect]
      refine readyModesSound_startPass fun k hk => ?_
      have hmode := mode_checkEnded s m k { s.mode m with state := .ready, badReason := none } .ready
      by_cases hkm : k = m
      · subst hkm
        exact checkDefect_none_of_sameTables ⟨⟨_, _, hmode.trans (if_pos rfl)⟩, fun _ _ _ => rfl, fun _ _ => rfl⟩ hdefect
      · rw [if_neg hkm] at hmode
        exact checkDefect_none_of_sameTables ⟨⟨_, _, hmode⟩, fun _ _ _ => rfl, fun _ _ => rfl⟩ (h k (hmode ▸ hk))

/-- A table write reopens every mode whose tables it changes (R45, R47). -/
theorem readyModesSound_tableWrite {s : State} (h : s.readyModesSound) (ms : List (Fin 8)) {f : State → State}
    (hm : ∀ k, k ∉ ms → s.sameTables (f s) k ∧ (f s).mode k = s.mode k) :
    (s.tableWrite ms f).readyModesSound := by
  unfold State.tableWrite
  split
  · exact h
  · refine readyModesSound_mono h fun k hk => ?_
    obtain ⟨hpairs, hrows⟩ := tables_reopenModes (f s) ms
    rw [mode_reopenModes] at hk
    by_cases hmem : k ∈ ms
    · simp [hmem] at hk
    · obtain ⟨⟨-, hp, hr⟩, hmode⟩ := hm k hmem
      rw [if_neg hmem, hmode] at hk
      refine ⟨hk, ⟨_, _, by rw [mode_reopenModes, if_neg hmem, hmode]⟩, fun b i hi => ?_, fun r hin => ?_⟩
      · rw [← hp b i hi]
        simp [State.pairEntry, State.pairAt, hpairs]
      · rw [← hr r hin]
        simp [State.rowWordAt, hrows]

theorem readyModesSound_tablePortWrite {s : State} (h : s.readyModesSound) (w : Word) :
    (s.tablePortWrite w).readyModesSound := by
  have hadvance {u : State} (hu : u.readyModesSound) : u.advanceIndex.readyModesSound := hu
  refine hadvance ?_
  split
  · unfold State.writeDescriptor
    split
    · split
      · refine readyModesSound_tableWrite h _ fun k hk => ?_
        have hmode (d : Descriptor) := (mode_setMode s _ k d).trans (if_neg (mt List.mem_singleton.mpr hk))
        exact ⟨⟨⟨_, _, hmode _⟩, fun _ _ _ => rfl, fun _ _ => rfl⟩, hmode _⟩
      · exact h
    · exact h
  · unfold State.writePair
    split
    · refine readyModesSound_tableWrite h _ fun k hk => ⟨⟨⟨_, _, rfl⟩, fun b i hi => ?_, fun _ _ => rfl⟩, rfl⟩
      have hplace : 2048 * k.val + 256 * b.val + i ≠ s.bus.tableOffset.toNat := by
        rintro heq
        refine hk (List.mem_singleton.mpr (Fin.ext ?_))
        dsimp only
        omega
      simp [State.pairEntry, State.pairAt, Sparse.find_write, hplace]
    · exact h
  · unfold State.writeRow
    split
    · refine readyModesSound_tableWrite h _ fun k hk => ⟨⟨⟨_, _, rfl⟩, fun _ _ _ => rfl, fun r hr => ?_⟩, rfl⟩
      have hplace : r ≠ s.bus.tableOffset.toNat := by
        rintro rfl
        exact hk (List.mem_filter.mpr ⟨mem_modeNumbers k, hr⟩)
      simp [State.rowWordAt, Sparse.find_write, hplace]
    · exact h
  all_goals exact readyModesSound_of_same (by simp) (by simp) h

/-- A soft reset changes the descriptors of modes in CHECKING alone (R57). -/
theorem readyModesSound_softReset {s : State} (h : s.readyModesSound) : s.softReset.readyModesSound := by
  refine readyModesSound_of_modes (s := s) h rfl rfl rfl fun m hready => ?_
  have hmode : s.softReset.mode m = (s.mode m).softReset := by simp [State.mode, State.softReset]
  rw [hmode] at hready ⊢
  unfold Descriptor.softReset at hready ⊢
  split
  · simp_all
  · rfl

/-- A pin reset leaves every mode EMPTY (R56). -/
theorem readyModesSound_pinReset (s : State) : s.pinReset.readyModesSound := by
  intro m hready
  have hmode : s.pinReset.mode m = Descriptor.zeroed := Vector.getElem_replicate m.isLt
  simp [hmode, Descriptor.zeroed] at hready

/-! ### Every command and event -/

theorem readyModesSound_commandEffect {s : State} (h : s.readyModesSound) (code : Word) :
    (s.commandEffect code).1.readyModesSound := by
  unfold State.commandEffect
  split
  case h_9 => exact readyModesSound_modeCheck h
  case h_10 => exact readyModesSound_modeErase h
  case h_15 => exact readyModesSound_softReset h
  all_goals exact readyModesSound_of_same (by simp) (by simp) h

theorem readyModesSound_writeRegister {s : State} (h : s.readyModesSound) (r : Reg) (w : Word) :
    (s.writeRegister r w).readyModesSound := by
  cases r with
  | command => exact readyModesSound_commandEffect (s := { s with bus := { s.bus with command := w } }) h w
  | tableData => exact readyModesSound_tablePortWrite h w
  | _ => exact readyModesSound_of_same (by simp [State.writeRegister]) (by simp [State.writeRegister]) h

/-- The effect of every command and event that has a route keeps READY modes free of defects. Those not named leave the
Waveform Store alone. -/
theorem readyModesSound_effect {s : State} (c : Instr) (hc : route c ≠ none) (h : s.readyModesSound) :
    (s.effect c).readyModesSound := by
  cases hw : registerWriteOf c with
  | some rw => exact effect_of_registerWriteOf hw s ▸ readyModesSound_writeRegister h rw.1 rw.2
  | none =>
    cases c with
    | checkEnd => exact readyModesSound_endCheck h
    | unknownCommand code => exact h
    | vddApplied | pinReset | resetRelease | busAccessInReset => simp [route] at hc
    | _ =>
      exact readyModesSound_of_same (by simp_all [State.effect, registerWriteOf])
        (by simp_all [State.effect, registerWriteOf]) h

theorem readyModesSound_settle {s : State} (h : s.readyModesSound) : s.settle.readyModesSound :=
  readyModesSound_of_same (by simp) (by simp) h

end Sys2Proof.Machine

/-! PROOFS. The slots and the frame plan (R92, R98, R99): each slot agrees with its state and runs in a band of its mode,
and the plan holds slots that are DRIVING. Each operation that touches the slots or the plan keeps `State.lanesSound`. -/

namespace Sys2Proof.Machine

/-! ### One slot and its place in the plan -/

/-- A slot runs in a band of the mode's band set, for the frame count of that band (R88). -/
def Slot.runsIn (sl : Slot) (d : Descriptor) : Prop :=
  d.hasBand sl.band = true ∧ sl.frameTotal = (d.frameCounts[sl.band]).toNat

/-- A slot agrees with its state and, unless it is FREE, runs in a band of its mode (R88, R92). -/
def State.slotSound (s : State) (n : Fin 16) : Prop :=
  (s.slot n).agrees = true ∧ ((s.slot n).state ≠ .free → (s.slot n).runsIn (s.mode (s.slot n).mode))

/-- The slots and the frame plan. -/
def State.lanesSound (s : State) : Prop := s.slotsSound ∧ s.planSound

theorem slotSound_of_cleared {s : State} {n : Fin 16} (h : s.slot n = Slot.cleared) : s.slotSound n := by
  refine ⟨by rw [h]; decide, fun hn => absurd ?_ hn⟩
  rw [h]
  rfl

theorem slotSound_congr {s t : State} {n : Fin 16} (hs : t.slot n = s.slot n)
    (hm : (s.slot n).state ≠ .free → t.mode (s.slot n).mode = s.mode (s.slot n).mode) (h : s.slotSound n) :
    t.slotSound n := by
  refine ⟨by rw [hs]; exact h.1, fun hn => ?_⟩
  rw [hs] at hn ⊢
  rw [hm hn]
  exact h.2 hn

/-- A slot that is not DRIVING is not in the plan. -/
theorem not_planned {s : State} (h : s.planSound) {n : Fin 16} (hn : (s.slot n).state ≠ .driving) :
    ∀ p ∈ s.plan, p.slot ≠ n := by
  rintro p hp rfl
  exact hn (h p hp).1

/-- A slot with an outcome is in ENDING (R92). -/
theorem ending_of_outcome {sl : Slot} (h : sl.agrees = true) (ho : sl.outcome.isSome = true) : sl.state = .ending := by
  unfold Slot.agrees at h
  split at h <;> simp_all [Slot.cleared]

/-- What leaves a slot and its mode's descriptor alone, or leaves it sound and out of the plan, slot by slot. -/
theorem lanesSound_mono {s t : State} (h : s.lanesSound) (hp : t.plan ⊆ s.plan)
    (hn : ∀ n, (t.slot n = s.slot n ∧ ((s.slot n).state ≠ .free → t.mode (s.slot n).mode = s.mode (s.slot n).mode)) ∨
      (t.slotSound n ∧ ∀ p ∈ t.plan, p.slot ≠ n)) : t.lanesSound := by
  refine ⟨fun n => ?_, fun p hmem => ?_⟩
  · rcases hn n with ⟨hs, hm⟩ | ⟨hsound, -⟩
    · exact slotSound_congr hs hm (h.1 n)
    · exact hsound
  · rcases hn p.slot with ⟨hs, -⟩ | ⟨-, hout⟩
    · have hplan := h.2 p (hp hmem)
      rw [State.planEntry, hs]
      exact hplan
    · exact absurd rfl (hout p hmem)

/-- What leaves the slots, the plan and the descriptors of the modes in use alone. -/
theorem lanesSound_of_used {s t : State} (hs : t.slots = s.slots) (hp : t.plan = s.plan)
    (hm : ∀ m, s.inUse m ≠ 0 → t.mode m = s.mode m) (h : s.lanesSound) : t.lanesSound :=
  lanesSound_mono h (hp ▸ List.Subset.refl _) fun n =>
    .inl ⟨slot_of_slots hs n, fun hn => hm _ ((inUse_ne_zero_iff s _).mpr (.inr ⟨n, hn, rfl⟩))⟩

theorem lanesSound_of_same {s t : State} (hs : t.slots = s.slots) (hp : t.plan = s.plan) (hm : t.store = s.store)
    (h : s.lanesSound) : t.lanesSound :=
  lanesSound_of_used hs hp (fun m _ => mode_of_store hm m) h

theorem lanesSound_of_cleared {s : State} (hs : ∀ n, s.slot n = Slot.cleared) (hp : s.plan = []) : s.lanesSound :=
  ⟨fun n => slotSound_of_cleared (hs n), fun p hmem => by simp [hp] at hmem⟩

/-! ### Posts and cuts (R102, R104 to R106) -/

/-- A slot's post that is taken clears a slot in ENDING. -/
theorem lanesSound_takePost {s : State} (h : s.lanesSound) (p : Poster) : (s.takePost p).lanesSound := by
  refine lanesSound_mono h (by simp) fun n => ?_
  have hslot := slot_takePost s p n
  split at hslot
  · rename_i hpost
    have hending := ending_of_outcome (h.1 n).1 hpost.2
    refine .inr ⟨slotSound_of_cleared hslot, ?_⟩
    simpa using not_planned h.2 (n := n) (by simp [hending])
  · exact .inl ⟨hslot, fun _ => mode_of_store (by simp) _⟩

theorem lanesSound_offer {s : State} (h : s.lanesSound) (p : Poster) : (s.offer p).lanesSound := by
  unfold State.offer
  split
  · exact lanesSound_takePost h p
  · exact h

theorem lanesSound_offerEntries {s : State} (h : s.lanesSound) (ts : List Tag) : (s.offerEntries ts).lanesSound := by
  induction ts generalizing s with
  | nil => exact h
  | cons t ts ih => exact ih (lanesSound_offer h _)

/-- A slot that is not FREE and has left the plan enters ENDING, with DONE only after its last frame (R101, R105). -/
theorem lanesSound_endSlot {s : State} (h : s.lanesSound) {n : Fin 16} {o : SlotOutcome}
    (hn : (s.slot n).state ≠ .free) (hout : ∀ p ∈ s.plan, p.slot ≠ n)
    (hdone : o = .done → (s.slot n).framesDriven = (s.slot n).frameTotal ∧ (s.slot n).startStamp.isSome = true) :
    (s.endSlot n o).lanesSound := by
  refine lanesSound_offer
    (s := s.setSlot n { s.slot n with state := .ending, outcome := some o })
    (lanesSound_mono h (List.Subset.refl _) fun m => ?_) _
  by_cases hm : m = n
  · subst hm
    have hslot : (s.setSlot m { s.slot m with state := .ending, outcome := some o }).slot m
        = { s.slot m with state := .ending, outcome := some o } := by simp
    refine .inr ⟨⟨?_, fun _ => ?_⟩, hout⟩
    · rw [hslot]
      by_cases ho : o = .done
      · simp [Slot.agrees, hdone ho]
      · simp [Slot.agrees, ho]
    · rw [hslot]
      exact (h.1 m).2 hn
  · exact .inl ⟨by simp [hm], fun _ => rfl⟩

theorem lanesSound_cutSlot {s : State} (h : s.lanesSound) (n : Fin 16) {o : SlotOutcome} (ho : o ≠ .done) :
    (s.cutSlot n o).lanesSound := by
  unfold State.cutSlot
  split
  case h_1 hst =>
    exact lanesSound_endSlot (s := s.abandonSnapshot n) h (hst.trans_ne (by simp))
      (not_planned h.2 (by simp [hst])) fun hdone => absurd hdone ho
  case h_2 hst =>
    have hleft : ((s.leavePlan n).updateClaimed (s.slot n).rect fun _ t => t.makeUnknown).lanesSound :=
      lanesSound_mono h (List.filter_subset_self s.plan) fun m => .inl ⟨rfl, fun _ => rfl⟩
    exact lanesSound_endSlot hleft (hst.trans_ne (by simp)) (fun p hp => by simpa using (List.mem_filter.mp hp).2)
      fun hdone => absurd hdone ho
  all_goals exact h

theorem lanesSound_cutSlots {s : State} (h : s.lanesSound) {o : SlotOutcome} (ho : o ≠ .done) (ns : List (Fin 16)) :
    (s.cutSlots o ns).lanesSound := by
  induction ns generalizing s with
  | nil => exact h
  | cons n ns ih => exact ih (lanesSound_cutSlot h n ho)

/-! ### A start (R82 to R89) -/

/-- A start fills the slot for a band of the mode that it runs in (R81, R84, R88). -/
theorem decideEntry_startedSlot (s : State) (i : Nat) (e : Entry) (b : Fin 8) (n : Fin 16) :
    (∃ r, s.decideEntry i e b n = s.reject i e r) ∨
      ∃ m r promoted widened, (s.mode m).hasBand b = true ∧
        s.decideEntry i e b n = s.startRegion i n (s.startedSlot e m b r promoted widened) := by
  unfold State.decideEntry
  split
  · exact .inl ⟨_, rfl⟩
  · rename_i hband
    split
    · split
      · exact .inl ⟨_, rfl⟩
      · split
        · exact .inl ⟨_, rfl⟩
        · rename_i husable
          simp only [State.cleanUsable, Bool.not_eq_true', Bool.not_eq_false, Bool.and_eq_true] at husable
          exact .inr ⟨_, _, _, _, husable.2, rfl⟩
    · exact .inr ⟨_, _, _, _, by simpa using hband, rfl⟩

/-- A FREE slot filled by a start has driven nothing. -/
theorem lanesSound_startRegion {s : State} (h : s.lanesSound) (i : Nat) {n : Fin 16} (hn : s.freeSlot = some n)
    (e : Entry) {m b : Fin 8} (hb : (s.mode m).hasBand b = true) (r : Rect) (promoted widened : Bool) :
    (s.startRegion i n (s.startedSlot e m b r promoted widened)).lanesSound := by
  refine lanesSound_mono h (by simp) fun k => ?_
  have hslot := slot_startRegion s i n k (s.startedSlot e m b r promoted widened)
  by_cases hk : k = n
  · subst hk
    rw [if_pos rfl] at hslot
    refine .inr ⟨⟨by rw [hslot]; rfl, fun _ => ?_⟩, ?_⟩
    · rw [hslot, mode_of_store (s := s) (by simp)]
      exact ⟨hb, rfl⟩
    · simpa using not_planned h.2 (n := k) (by simp [state_of_freeSlot hn])
  · exact .inl ⟨hslot.trans (if_neg hk), fun _ => mode_of_store (by simp) _⟩

theorem lanesSound_examineNext {s : State} (h : s.lanesSound) : s.examineNext.lanesSound := by
  rcases examineNext_cases s with hx | ⟨i, e, hx⟩
  · rw [hx]
    exact h
  have hreached : (s.reached i).lanesSound := h
  rw [hx]
  rcases examine_cases s i e with hx | hx | ⟨b, n, hn, -, hx⟩
  · rw [hx]
    exact hreached
  · rw [hx]
    exact lanesSound_of_same (by simp) (by simp) (by simp) hreached
  · rw [hx]
    rcases decideEntry_startedSlot (s.reached i) i e b n with ⟨r, hd⟩ | ⟨m, r, promoted, widened, hb, hd⟩
    · rw [hd]
      exact lanesSound_offer (s := (s.reached i).setEntryState i _) hreached _
    · rw [hd]
      exact lanesSound_startRegion hreached i hn e hb r promoted widened

/-! ### A frame start (R97 to R99) -/

theorem runsIn_advance (c : Word) {sl : Slot} {d : Descriptor} (h : sl.runsIn d) : (sl.advance c).runsIn d := by
  unfold Slot.advance
  repeat' split
  all_goals exact h

/-- A slot that has a frame to drive acts in step with its state (R98). -/
theorem agrees_advance (c : Word) {sl : Slot} (h : sl.agrees = true) (hpos : sl.state ≠ .free → 1 ≤ sl.frameTotal) :
    (sl.advance c).agrees = true := by
  unfold Slot.advance
  split
  case h_1 hst =>
    split
    · simp_all [Slot.agrees]
    · exact h
  case h_2 hst =>
    simp only [Slot.agrees, hst, Bool.and_eq_true, decide_eq_true_eq, beq_iff_eq] at h
    obtain ⟨⟨⟨⟨⟨hone, hle⟩, hindex⟩, hdrove⟩, hstamp⟩, hout⟩ := h
    split
    · simp only [Slot.agrees, hst, Bool.and_eq_true, decide_eq_true_eq, beq_iff_eq]
      exact ⟨⟨⟨⟨⟨by omega, by omega⟩, by omega⟩, hdrove⟩, hstamp⟩, hout⟩
    · simp only [Slot.agrees, Bool.and_eq_true, beq_iff_eq]
      exact ⟨⟨⟨by omega, hdrove⟩, hstamp⟩, hout⟩
  all_goals exact h

/-- What the slots and the plan rest on at a frame start: a slot that is not FREE has a frame to drive, since its mode is
READY and passes the Table Checker (R44, R49). -/
structure State.drivable (s : State) : Prop where
  uses : s.usesSound
  ready : s.readyModesSound
  lanes : s.lanesSound

theorem drivable_of_same {s t : State} (hs : t.slots = s.slots) (hj : t.jobs = s.jobs)
    (hq : t.queue.map Entry.mode = s.queue.map Entry.mode) (hm : t.store = s.store) (hf : t.freeIndex = s.freeIndex)
    (hp : t.plan = s.plan) (h : s.drivable) : t.drivable :=
  ⟨usesSound_of_same hs hj hq hm h.uses, readyModesSound_of_same hm hf h.ready, lanesSound_of_same hs hp hm h.lanes⟩

theorem inUse_of_slot {s : State} {n : Fin 16} (hn : (s.slot n).state ≠ .free) : s.inUse (s.slot n).mode ≠ 0 :=
  (inUse_ne_zero_iff s _).mpr (.inr ⟨n, hn, rfl⟩)

/-- The mode of a slot that is not FREE passes the Table Checker (R42, R44). -/
theorem State.drivable.checked {s : State} (h : s.drivable) {n : Fin 16} (hn : (s.slot n).state ≠ .free) :
    s.checkDefect (s.slot n).mode = none :=
  h.ready _ (h.uses.2 _ (inUse_of_slot hn))

theorem State.drivable.frameTotal_pos {s : State} (h : s.drivable) {n : Fin 16} (hn : (s.slot n).state ≠ .free) :
    1 ≤ (s.slot n).frameTotal := by
  obtain ⟨hband, htotal⟩ := (h.lanes.1 n).2 hn
  rw [htotal]
  exact (frameCount_of_sound (h.checked hn) hband).1

theorem slotsSound_advanced {s : State} (h : s.drivable) : s.advanced.slotsSound := by
  intro n
  change s.advanced.slotSound n
  rw [State.slotSound, slot_advanced]
  refine ⟨agrees_advance _ (h.lanes.1 n).1 h.frameTotal_pos, fun hn => ?_⟩
  rw [advance_mode]
  exact runsIn_advance _ ((h.lanes.1 n).2 (mt (advance_free_iff _ _).mpr hn))

/-- The plan as it is handed over holds the slots that are DRIVING (R99). -/
theorem planSound_makePlan (s : State) : State.planSound { s with plan := s.makePlan } := by
  intro p hp
  obtain ⟨n, hn, rfl⟩ := List.mem_map.mp hp
  exact ⟨beq_iff_eq.mp (List.mem_filter.mp hn).2, rfl⟩

theorem lanesSound_regionFrame {s : State} (h : s.drivable) : s.regionFrame.lanesSound := by
  unfold State.regionFrame
  split
  · have hplan : State.lanesSound { s.advanced with plan := s.advanced.makePlan } :=
      ⟨slotsSound_advanced h, planSound_makePlan s.advanced⟩
    exact lanesSound_of_same (by simp; rfl) (by simp; rfl) (by simp; rfl) hplan
  · exact ⟨h.lanes.1, fun p hp => by cases hp⟩

theorem drivable_regionFrame {s : State} (h : s.drivable) : s.regionFrame.drivable :=
  ⟨usesSound_regionFrame h.uses, readyModesSound_of_same (by simp) (by simp) h.ready, lanesSound_regionFrame h⟩

theorem drivable_deliverFrame {s : State} (h : s.drivable) (o : FrameOrder) : (s.deliverFrame o).drivable := by
  have ht : State.drivable
      (State.temperatureFrame { s with frame := ⟨some s.config.frameTime, false, s.frame.counter + 1⟩ }) :=
    drivable_of_same (by simp) (by simp) (by simp) (by simp) (by simp) (by simp) h
  have hpower {u : State} (hu : u.drivable) : u.powerFrame.drivable :=
    drivable_of_same (by simp) (by simp) (by simp) (by simp) (by simp) (by simp) hu
  have hscan {u : State} (hu : u.drivable) : u.scanFrame.drivable :=
    drivable_of_same (by simp) (by simp) (by simp) (by simp) (by simp) (by simp) hu
  cases o with
  | regionFirst => exact hscan (hpower (drivable_regionFrame ht))
  | sequencerFirst => exact hscan (drivable_regionFrame (hpower ht))

end Sys2Proof.Machine

/-! PROOFS. The slots and the frame plan over the ends of jobs, the table writes, the frame starts, and every command and
event. -/

namespace Sys2Proof.Machine

/-! ### The ends of jobs (R95, R100, R101) -/

/-- The accesses of the running job served, and the job gone from the list. -/
def State.jobLeft (s : State) (rest : List Job) : State := { s.serveJob with jobs := rest }

theorem slot_jobLeft (s : State) (rest : List Job) (n : Fin 16) : (s.jobLeft rest).slot n = s.slot n :=
  slot_of_slots (by simp [State.jobLeft]) n

theorem mode_jobLeft (s : State) (rest : List Job) (m : Fin 8) : (s.jobLeft rest).mode m = s.mode m :=
  mode_of_store (by simp [State.jobLeft]) m

theorem config_jobLeft (s : State) (rest : List Job) : (s.jobLeft rest).config = s.config := by simp [State.jobLeft]

/-- A snapshot that ends: its slot's snapshot is done (R95). -/
theorem endSnapshot_of_running {s : State} {j : Job} {rest : List Job} (hjobs : s.jobs = j :: rest)
    (hkind : j.kind = .snapshot) :
    s.endSnapshot = (s.jobLeft rest).setSlot j.slot { s.slot j.slot with snapshotDone := true } := by
  have heq : s.endSnapshot =
      (s.jobLeft rest).setSlot j.slot { (s.jobLeft rest).slot j.slot with snapshotDone := true } := by
    simp only [State.endSnapshot, hjobs, hkind, if_true]
    rfl
  rw [heq, slot_jobLeft]

/-- The state in which the record of an ended commit is offered: its tiles updated (R101). -/
def State.committed (s : State) (j : Job) (rest : List Job) : State :=
  (s.jobLeft rest).updateClaimed (s.slot j.slot).rect
    (commitTile (s.mode (s.slot j.slot).mode).flash (s.slot j.slot).rect s.config.panelW)

/-- A commit that ends (R100, R101). -/
theorem endCommit_of_running {s : State} {j : Job} {rest : List Job} (hjobs : s.jobs = j :: rest)
    (hkind : j.kind = .commit) : s.endCommit = (s.committed j rest).endSlot j.slot .done := by
  have heq : s.endCommit =
      ((s.jobLeft rest).updateClaimed ((s.jobLeft rest).slot j.slot).rect
        (commitTile ((s.jobLeft rest).mode ((s.jobLeft rest).slot j.slot).mode).flash ((s.jobLeft rest).slot j.slot).rect
          (s.jobLeft rest).config.panelW)).endSlot j.slot .done := by
    simp only [State.endCommit, hjobs, hkind, if_true]
    rfl
  rw [heq, slot_jobLeft, mode_jobLeft, config_jobLeft]
  rfl

theorem endSnapshot_of_not_running {s : State} (h : ∀ j ∈ s.jobs.head?, j.kind ≠ .snapshot) : s.endSnapshot = s := by
  unfold State.endSnapshot
  split
  · rfl
  · rename_i j rest hjobs
    exact if_neg (h j (by simp [hjobs]))

theorem endCommit_of_not_running {s : State} (h : ∀ j ∈ s.jobs.head?, j.kind ≠ .commit) : s.endCommit = s := by
  unfold State.endCommit
  split
  · rfl
  · rename_i j rest hjobs
    exact if_neg (h j (by simp [hjobs]))

/-- Whether a job of a kind runs at the head of the list. -/
theorem running_or_not (s : State) (k : JobKind) :
    (∃ j rest, s.jobs = j :: rest ∧ j.kind = k) ∨ ∀ j ∈ s.jobs.head?, j.kind ≠ k := by
  cases hjobs : s.jobs with
  | nil => exact .inr (by simp)
  | cons j rest =>
    by_cases hk : j.kind = k
    · exact .inl ⟨j, rest, rfl, hk⟩
    · exact .inr (by simpa using hk)

/-- The running snapshot job is of a slot that is STARTING (R94). -/
theorem starting_of_snapshot {s : State} (h : s.jobsSound) {j : Job} {rest : List Job} (hjobs : s.jobs = j :: rest)
    (hkind : j.kind = .snapshot) : (s.slot j.slot).state = .starting := by
  obtain ⟨-, -, hsnapshot, -⟩ := h
  exact ((hsnapshot j.slot).mp ⟨j, by simp [hjobs], rfl, hkind⟩).1

theorem lanesSound_endSnapshot {s : State} (hj : s.jobsSound) (h : s.lanesSound) : s.endSnapshot.lanesSound := by
  rcases running_or_not s .snapshot with ⟨j, rest, hjobs, hkind⟩ | hnone
  · have hstarting := starting_of_snapshot hj hjobs hkind
    rw [endSnapshot_of_running hjobs hkind]
    refine lanesSound_mono h (by simp [State.jobLeft]) fun n => ?_
    have hslot := slot_setSlot (s.jobLeft rest) j.slot n { s.slot j.slot with snapshotDone := true }
    by_cases hn : n = j.slot
    · subst hn
      rw [if_pos rfl] at hslot
      obtain ⟨hagrees, hruns⟩ := h.1 j.slot
      refine .inr ⟨⟨?_, fun _ => ?_⟩, ?_⟩
      · rw [Slot.agrees, hstarting] at hagrees
        rw [hslot]
        simpa [Slot.agrees, hstarting] using hagrees
      · rw [hslot, mode_of_store (s := s) (by simp [State.jobLeft])]
        exact hruns (by simp [hstarting])
      · simpa [State.jobLeft] using not_planned h.2 (n := j.slot) (by simp [hstarting])
    · exact .inl ⟨hslot.trans ((if_neg hn).trans (slot_jobLeft s rest n)),
        fun _ => mode_of_store (by simp [State.jobLeft]) _⟩
  · rw [endSnapshot_of_not_running hnone]
    exact h

theorem lanesSound_endCommit {s : State} (hj : s.jobsSound) (h : s.lanesSound) : s.endCommit.lanesSound := by
  rcases running_or_not s .commit with ⟨j, rest, hjobs, hkind⟩ | hnone
  · have hcommitting := committing_of_commit hj hjobs hkind
    have hkept : (s.committed j rest).lanesSound :=
      lanesSound_of_same (by simp [State.committed, State.jobLeft]) (by simp [State.committed, State.jobLeft])
        (by simp [State.committed, State.jobLeft]) h
    have hslot : (s.committed j rest).slot j.slot = s.slot j.slot := slot_jobLeft s rest _
    have hagrees := (h.1 j.slot).1
    rw [Slot.agrees, hcommitting] at hagrees
    simp only [Bool.and_eq_true, beq_iff_eq] at hagrees
    obtain ⟨⟨⟨hall, -⟩, hstamp⟩, -⟩ := hagrees
    rw [endCommit_of_running hjobs hkind]
    refine lanesSound_endSlot hkept (by simp [hslot, hcommitting]) (not_planned hkept.2 (by simp [hslot, hcommitting]))
      fun _ => ?_
    rw [hslot]
    exact ⟨hall, hstamp⟩
  · rw [endCommit_of_not_running hnone]
    exact h

/-! ### Descriptors (R46, R48, R51, R53) -/

theorem lanesSound_setMode {s : State} (h : s.lanesSound) {m : Fin 8} (hm : s.inUse m = 0) (d : Descriptor) :
    (s.setMode m d).lanesSound := by
  refine lanesSound_of_used (by rfl) (by rfl) (fun k hk => (mode_setMode s m k d).trans (if_neg ?_)) h
  rintro rfl
  exact hk hm

theorem lanesSound_modeCheck {s : State} (h : s.lanesSound) : s.modeCheck.1.lanesSound := by
  unfold State.modeCheck
  split
  · exact h
  · split
    · exact h
    · split
      · exact h
      · exact lanesSound_setMode h (not_not.mp ‹_›) _

theorem lanesSound_modeErase {s : State} (h : s.lanesSound) : s.modeErase.1.lanesSound := by
  unfold State.modeErase
  split
  · exact h
  · split
    · exact h
    · split
      · exact h
      · exact lanesSound_setMode h (not_not.mp ‹_›) _

/-- A mode being checked is not in use, so the end of its check leaves the modes in use alone (R44). -/
theorem mode_endCheck_of_used {s : State} (h : s.usedModesReady) {m : Fin 8} (hm : s.inUse m ≠ 0) :
    s.endCheck.mode m = s.mode m := by
  cases hk : s.checking with
  | none => simp only [State.endCheck, hk]
  | some k =>
    have hne : m ≠ k := by
      rintro rfl
      simpa [h m hm] using state_of_checking hk
    have hpass (u : State) : u.startPass.mode m = u.mode m := mode_of_store (by simp) m
    cases hdefect : s.checkDefect k with
    | none => rw [endCheck_of_none hk hdefect, hpass, mode_checkEnded, if_neg hne]
    | some r => rw [endCheck_of_some hk hdefect, mode_checkEnded, if_neg hne]

/-- A write through the table port leaves the modes in use alone (R46). -/
theorem mode_tablePortWrite_of_used {s : State} {m : Fin 8} (hm : s.inUse m ≠ 0) (w : Word) :
    (s.tablePortWrite w).mode m = s.mode m := by
  have hadvance (u : State) : u.advanceIndex.mode m = u.mode m := rfl
  by_cases hsp : s.bus.tableSpace.toNat ≤ 2
  · by_cases hw : writableWord s.bus.tableSpace.toNat s.bus.tableOffset.toNat
    · by_cases hused : ∃ k ∈ s.affectedModes s.bus.tableSpace.toNat s.bus.tableOffset.toNat, s.inUse k ≠ 0
      · rw [tablePortWrite_refused hsp w hw hused]
        rfl
      · push Not at hused
        rw [tablePortWrite_performed hsp w hw hused, hadvance]
        exact mode_wordWritten_of_not_mem hw w fun hmem => hm (hused m hmem)
    · rw [tablePortWrite_ignored hsp w hw]
      rfl
  · unfold State.tablePortWrite
    rw [hadvance]
    split
    case h_1 | h_2 | h_3 => omega
    all_goals exact mode_of_store (by simp) m

/-! ### Frame starts and the ends of scans (R110, R113, R117) -/

/-- The state with another scan, frame unit and flags. -/
def State.reframed (s : State) (sc : Option Scan) (f : FrameUnit) (e : BitVec 10) : State :=
  { s with scan := sc, frame := f, events := e }

/-- What an event of the frame timer or of a scan's end leaves: the scan goes on or has ended, and a frame start has been
delivered or not. -/
inductive FrameShape (s : State) : State → Prop
  | waits (sc : Option Scan) (f : FrameUnit) (e : BitVec 10) (hsc : sc = none ∨ sc = s.scan) :
    FrameShape s (s.reframed sc f e)
  | delivers (sc : Option Scan) (f : FrameUnit) (e : BitVec 10) (o : FrameOrder) (hsc : sc = none ∨ sc = s.scan) :
    FrameShape s ((s.reframed sc f e).deliverFrame o)

theorem FrameShape.refl (s : State) : FrameShape s s := .waits s.scan s.frame s.events (.inr rfl)

theorem frameShape_endScan (s : State) (o : FrameOrder) : FrameShape s (s.endScan o) := by
  unfold State.endScan
  dsimp only
  split
  · exact .delivers none s.frame _ o (.inl rfl)
  · exact .waits none s.frame s.events (.inl rfl)

theorem frameShape_frameStart (s : State) (o : FrameOrder) : FrameShape s (s.frameStart o) := by
  unfold State.frameStart
  dsimp only
  split
  · exact .delivers none s.frame _ o (.inl rfl)
  · exact .delivers none s.frame s.events o (.inl rfl)

theorem frameShape_expireFrameTimer (s : State) (o : FrameOrder) : FrameShape s (s.expireFrameTimer o) := by
  unfold State.expireFrameTimer
  split
  · exact .refl s
  · split
    · exact .waits s.scan _ s.events (.inr rfl)
    · exact .delivers s.scan s.frame s.events o (.inr rfl)

theorem frameShape_scanEnds (s : State) (o : FrameOrder) : FrameShape s (s.scanEnds o) := by
  unfold State.scanEnds
  split
  · exact frameShape_endScan s o
  · exact .refl s

theorem frameShape_reachIdle (s : State) (o : FrameOrder) : FrameShape s (s.reachIdle o) := by
  unfold State.reachIdle
  split
  · exact frameShape_frameStart s o
  · exact .refl s

theorem frameShape_reachDischarge (s : State) : FrameShape s s.reachDischarge := by
  unfold State.reachDischarge
  split
  · exact frameShape_frameStart s _
  · exact .refl s

theorem frameShape_reachPeriod (s : State) (o : FrameOrder) : FrameShape s (s.reachPeriod o) := by
  unfold State.reachPeriod
  split
  · exact frameShape_frameStart s o
  · exact .refl s

theorem frameShape_stopScanIfLeft (s : State) : FrameShape s s.stopScanIfLeft := by
  unfold State.stopScanIfLeft
  split
  · exact .refl s
  · split
    · exact .refl s
    · exact frameShape_endScan s _

theorem drivable_of_frameShape {s t : State} (h : s.drivable) (ht : FrameShape s t) : t.drivable := by
  have hsame (sc : Option Scan) (f : FrameUnit) (e : BitVec 10) : (s.reframed sc f e).drivable :=
    drivable_of_same (s := s) rfl rfl rfl rfl rfl rfl h
  cases ht with
  | waits sc f e => exact hsame sc f e
  | delivers sc f e o => exact drivable_deliverFrame (hsame sc f e) o

theorem drivable_settle {s : State} (h : s.drivable) : s.settle.drivable := by
  have hdue : s.dischargeIfDue.drivable :=
    drivable_of_same (by simp) (by simp) (by simp) (by simp) (by simp) (by simp) h
  have hstop := drivable_of_frameShape hdue (frameShape_stopScanIfLeft _)
  exact ⟨usesSound_settle h.uses, readyModesSound_settle h.ready,
    lanesSound_of_same (by simp [State.settle]) (by simp [State.settle]) (by simp [State.settle]) hstop.lanes⟩

/-! ### Commands and register writes -/

theorem lanesSound_cancelTag {s : State} (h : s.lanesSound) (t : Tag) : (s.cancelTag t).1.lanesSound := by
  unfold State.cancelTag
  split
  · exact h
  · split
    · split
      · split
        · rename_i i _ _ _ _ _
          have hwithdrawn : (s.setEntryState i .withdrawn).startPass.lanesSound :=
            lanesSound_of_same (by simp) (by simp) (by simp) h
          exact lanesSound_offer hwithdrawn _
        · exact h
      · exact h
    · split
      · split
        · exact lanesSound_cutSlot h _ (by simp)
        · exact h
      · exact h

theorem lanesSound_cancelAll {s : State} (h : s.lanesSound) : s.cancelAll.1.lanesSound := by
  have hcut : ((s.withdrawAll.offerEntries s.waitingTags).cutSlots .cancelled slotNumbers).lanesSound :=
    lanesSound_cutSlots (lanesSound_offerEntries (s := s.withdrawAll) h _) (by simp) _
  unfold State.cancelAll
  dsimp only
  split
  · exact hcut
  · exact lanesSound_of_same (by simp) (by simp) (by simp) hcut

theorem lanesSound_popRecord {s : State} (h : s.lanesSound) : s.popRecord.1.lanesSound := by
  unfold State.popRecord
  split
  · exact h
  · rename_i rest _
    have hrest (ps : List Poster) : State.lanesSound { s with completions := rest, posters := ps } := h
    dsimp only
    split
    · exact hrest s.posters
    · exact lanesSound_takePost (hrest _) _

theorem lanesSound_softReset (s : State) : s.softReset.lanesSound :=
  lanesSound_of_cleared (fun n => Vector.getElem_replicate n.isLt) rfl

theorem lanesSound_pinReset (s : State) : s.pinReset.lanesSound :=
  lanesSound_of_cleared (fun n => Vector.getElem_replicate n.isLt) rfl

theorem lanesSound_commandEffect {s : State} (h : s.lanesSound) (code : Word) : (s.commandEffect code).1.lanesSound := by
  unfold State.commandEffect
  split
  case h_2 => exact lanesSound_cancelTag h _
  case h_3 => exact lanesSound_cancelAll h
  case h_4 => exact lanesSound_popRecord h
  case h_9 => exact lanesSound_modeCheck h
  case h_10 => exact lanesSound_modeErase h
  case h_15 => exact lanesSound_softReset s
  all_goals exact lanesSound_of_same (by simp) (by simp) (by simp) h

theorem lanesSound_writeRegister {s : State} (h : s.lanesSound) (r : Reg) (w : Word) :
    (s.writeRegister r w).lanesSound := by
  cases r with
  | command => exact lanesSound_commandEffect (s := { s with bus := { s.bus with command := w } }) h w
  | tableData =>
    exact lanesSound_of_used (by simp [State.writeRegister]) (by simp [State.writeRegister])
      (fun m hm => mode_tablePortWrite_of_used hm w) h
  | _ =>
    exact lanesSound_of_same (by simp [State.writeRegister]) (by simp [State.writeRegister])
      (by simp [State.writeRegister]) h

theorem lanesSound_fallOfPgood {s : State} (h : s.lanesSound) : s.fallOfPgood.lanesSound := by
  unfold State.fallOfPgood
  dsimp only
  split
  case h_1 | h_2 => exact lanesSound_cutSlots (s := State.enterFault { s with pgood := false } _ _) h (by simp) _
  all_goals exact h

/-! ### Every command and event -/

/-- The effect of every command and event that has a route keeps the slots and the plan sound. Those not named leave the
slots, the plan and the Waveform Store alone. -/
theorem lanesSound_effect {s : State} (c : Instr) (hc : route c ≠ none) (h : s.drivable) : (s.effect c).lanesSound := by
  have hlanes := h.lanes
  cases hw : registerWriteOf c with
  | some rw => exact effect_of_registerWriteOf hw s ▸ lanesSound_writeRegister hlanes rw.1 rw.2
  | none =>
    cases c with
    | pgoodFall => exact lanesSound_fallOfPgood hlanes
    | frameTimerExpiry o => exact (drivable_of_frameShape h (frameShape_expireFrameTimer s o)).lanes
    | frameStart o => exact (drivable_of_frameShape h (frameShape_frameStart s o)).lanes
    | scanEnd o => exact (drivable_of_frameShape h (frameShape_scanEnds s o)).lanes
    | idleCountReached o => exact (drivable_of_frameShape h (frameShape_reachIdle s o)).lanes
    | dischargeCountReached => exact (drivable_of_frameShape h (frameShape_reachDischarge s)).lanes
    | periodicConversionRequest o => exact (drivable_of_frameShape h (frameShape_reachPeriod s o)).lanes
    | checkEnd =>
      exact lanesSound_of_used (by simp [State.effect]) (by simp [State.effect])
        (fun m hm => mode_endCheck_of_used h.uses.2 hm) hlanes
    | snapshotEnd => exact lanesSound_endSnapshot h.uses.1 hlanes
    | commitEnd => exact lanesSound_endCommit h.uses.1 hlanes
    | entryExamination => exact lanesSound_examineNext hlanes
    | unknownCommand code => exact hlanes
    | vddApplied | pinReset | resetRelease | busAccessInReset => simp [route] at hc
    | _ =>
      exact lanesSound_of_same (by simp_all [State.effect, registerWriteOf])
        (by simp_all [State.effect, registerWriteOf]) (by simp_all [State.effect, registerWriteOf]) hlanes

theorem drivable_effect {s : State} (c : Instr) (hc : route c ≠ none) (h : s.drivable) : (s.effect c).drivable :=
  ⟨usesSound_effect s c hc h.uses, readyModesSound_effect c hc h.ready, lanesSound_effect c hc h⟩

theorem drivable_pinReset (s : State) : s.pinReset.drivable :=
  ⟨usesSound_pinReset s, readyModesSound_pinReset s, lanesSound_pinReset s⟩

end Sys2Proof.Machine

/-! PROOFS. The codes formed for a scan (R42, R114, R115): no code that the scan forms is GROUND, since a slot in the plan
drives a frame below the frame count of a band of a mode that passes the Table Checker. Then every step, and O59. -/

namespace Sys2Proof.Machine

/-! ### The codes of a row (R114) -/

/-- No code of the pixels is GROUND. -/
def noGround (row : List FormedPixel) : Prop := ∀ px ∈ row, px.code ≠ .ground

theorem noGround_append {a b : List FormedPixel} : noGround (a ++ b) ↔ noGround a ∧ noGround b := by
  simp only [noGround, List.mem_append, or_imp, forall_and]

theorem noGround_replicate (n : Nat) : noGround (List.replicate n ⟨.neutral, none⟩) := by
  intro px hpx
  simp [List.eq_of_mem_replicate hpx]

/-- The slot that drives a pixel is in the plan (R114). -/
theorem mem_plan_of_driverOf {s : State} {x y : Nat} {p : PlanEntry} (h : s.driverOf x y = some p) : p ∈ s.plan := by
  unfold State.driverOf at h
  split at h
  · cases h
  · split at h
    · cases h
    · rename_i hplan
      split at h
      · cases h
        exact List.mem_of_find?_eq_some hplan
      · cases h

theorem formPixel_ne_ground {s : State} (h : s.drivable) (x y : Nat) (f t : Level) :
    (s.formPixel x y f t).code ≠ .ground := by
  unfold State.formPixel
  split
  · simp
  · rename_i p hp
    obtain ⟨hdriving, hentry⟩ := h.lanes.2 p (mem_plan_of_driverOf hp)
    have hbusy : (s.slot p.slot).state ≠ .free := by simp [hdriving]
    obtain ⟨hagrees, hruns⟩ := h.lanes.1 p.slot
    obtain ⟨hband, htotal⟩ := hruns hbusy
    have hindex : (s.slot p.slot).frameIndex < (s.slot p.slot).frameTotal := by
      simp only [Slot.agrees, hdriving, Bool.and_eq_true, decide_eq_true_eq, beq_iff_eq] at hagrees
      omega
    rw [htotal] at hindex
    rw [hentry]
    exact driveLookup_ne_ground (h.checked hbusy) hband hindex f t

theorem noGround_formQuad {s : State} (h : s.drivable) (q y : Nat) (cur fro : Quad) :
    noGround (s.formQuad q y cur fro) := by
  intro px hpx
  simp only [State.formQuad, List.mem_cons, List.not_mem_nil, or_false] at hpx
  rcases hpx with rfl | rfl | rfl | rfl <;> exact formPixel_ne_ground h _ _ _ _

theorem noGround_formRest {s : State} (h : s.drivable) (y fuel q : Nat) : noGround (s.formRest y fuel q) := by
  induction fuel generalizing q with
  | zero => simp [State.formRest, noGround]
  | succ n ih => exact noGround_append.mpr ⟨noGround_formQuad h q y _ _, ih _⟩

theorem noGround_nextRow {s : State} (h : s.drivable) {sc : Scan} (hsc : noGround sc.formed) :
    noGround (s.nextRow sc) := by
  unfold State.nextRow
  split
  · simp [noGround]
  · exact noGround_append.mpr ⟨hsc, noGround_formRest h _ _ _⟩

/-! ### The scan's own steps (R7, R113) -/

theorem scanSound_iff (s : State) :
    s.scanSound ↔ ∀ sc, s.scan = some sc → noGround sc.shifting ∧ noGround sc.formed :=
  forall_congr' fun _ => imp_congr_right fun _ => noGround_append

theorem scanSound_of_same {s t : State} (hs : t.scan = s.scan) (h : s.scanSound) : t.scanSound := by
  simpa only [State.scanSound, hs] using h

theorem scanSound_of_none {s : State} (h : s.scan = none) : s.scanSound := by
  simp [State.scanSound, h]

/-- A scan whose rows hold no GROUND, in place of the present one. -/
theorem scanSound_of_some {s : State} {sc : Scan} (h : s.scan = some sc) (hshift : noGround sc.shifting)
    (hformed : noGround sc.formed) : s.scanSound := by
  rw [scanSound_iff, h]
  rintro _ ⟨⟩
  exact ⟨hshift, hformed⟩

theorem scanSound_serveScanReads {s : State} (h : s.drivable) (hs : s.scanSound) : s.serveScanReads.scanSound := by
  unfold State.serveScanReads
  split
  · exact hs
  · rename_i sc hsc
    split
    · exact hs
    · obtain ⟨hshift, hformed⟩ := (scanSound_iff s).mp hs sc hsc
      exact scanSound_of_some rfl hshift (noGround_nextRow h hformed)

theorem scanSound_serveScan {s : State} (h : s.drivable) (hs : s.scanSound) {sc : Scan} (hsc : s.scan = some sc)
    (y q : Nat) : (s.serveScan sc y q).scanSound := by
  obtain ⟨hshift, hformed⟩ := (scanSound_iff s).mp hs sc hsc
  unfold State.serveScan
  split
  · split
    · refine scanSound_of_some rfl hshift (noGround_append.mpr ⟨noGround_append.mpr ⟨hformed, ?_⟩, ?_⟩)
      · exact noGround_replicate _
      · exact noGround_formQuad h _ _ _ _
    · exact scanSound_of_some rfl hshift hformed
  · exact scanSound_of_some rfl hshift hformed

theorem scanSound_quadAccess {s : State} (h : s.drivable) (hs : s.scanSound) : s.quadAccess.scanSound := by
  have hlower : s.lowerAccess.scanSound := scanSound_of_same (by simp) hs
  unfold State.quadAccess
  split
  · exact hlower
  · rename_i sc hsc
    split
    · exact hlower
    · exact scanSound_serveScan h hs hsc _ _

theorem scanSound_tick {s : State} (h : s.drivable) (hs : s.scanSound) : s.tick.scanSound := by
  unfold State.tick
  split
  · rename_i sc _ hsc
    obtain ⟨hshift, hformed⟩ := (scanSound_iff s).mp hs sc hsc
    unfold State.tickScan
    split
    · exact scanSound_of_some rfl hshift hformed
    · split
      · exact scanSound_of_some rfl (noGround_nextRow h hformed) (by simp [noGround])
      · exact hs
  · exact hs

/-- A scan begins with no code formed (R112). -/
theorem scanSound_scanFrame {s : State} (hs : s.scanSound) : s.scanFrame.scanSound := by
  unfold State.scanFrame
  dsimp only
  split
  · split
    · exact hs
    · exact scanSound_of_some rfl (by simp [noGround]) (by simp [noGround])
  · exact scanSound_of_some rfl (by simp [noGround]) (by simp [noGround])
  all_goals exact hs

theorem scanSound_deliverFrame {s : State} (hs : s.scanSound) (o : FrameOrder) : (s.deliverFrame o).scanSound := by
  cases o <;> exact scanSound_scanFrame (scanSound_of_same (by simp) hs)

theorem scanSound_of_frameShape {s t : State} (hs : s.scanSound) (ht : FrameShape s t) : t.scanSound := by
  have hsame {sc : Option Scan} (f : FrameUnit) (e : BitVec 10) (hsc : sc = none ∨ sc = s.scan) :
      (s.reframed sc f e).scanSound :=
    hsc.elim (fun hnone => scanSound_of_none hnone) fun heq => scanSound_of_same heq hs
  cases ht with
  | waits sc f e hsc => exact hsame f e hsc
  | delivers sc f e o hsc => exact scanSound_deliverFrame (hsame f e hsc) o

theorem scanSound_settle {s : State} (hs : s.scanSound) : s.settle.scanSound := by
  have hdue : s.dischargeIfDue.scanSound := scanSound_of_same (by simp) hs
  exact scanSound_of_same (by simp [State.settle]) (scanSound_of_frameShape hdue (frameShape_stopScanIfLeft _))

/-! ### Ends that serve the scan's reads first (log 7) -/

theorem scanSound_serveLoad {s : State} (h : s.drivable) (hs : s.scanSound) (stop : LoadEngine → Bool) (n : Nat) :
    (s.serveLoad stop n).scanSound := by
  unfold State.serveLoad
  split
  · exact hs
  · split
    · exact scanSound_of_same (by simp) (scanSound_serveScanReads h hs)
    · exact hs

theorem scanSound_serveJob {s : State} (h : s.drivable) (hs : s.scanSound) : s.serveJob.scanSound := by
  unfold State.serveJob
  split
  · exact hs
  · split
    · exact scanSound_of_same (by simp) (scanSound_serveScanReads h hs)
    · exact hs

theorem scanSound_endStretchedWrite {s : State} (h : s.drivable) (hs : s.scanSound) : s.endStretchedWrite.scanSound := by
  have hserve := scanSound_serveLoad h hs (fun l => decide (l.fifo.length < Config.fifoPlaces)) 4
  unfold State.endStretchedWrite
  split
  · dsimp only
    split
    · exact scanSound_of_same (by simp) hserve
    · exact hs
  · exact hs

theorem scanSound_endStretchedRead {s : State} (h : s.drivable) (hs : s.scanSound) : s.endStretchedRead.scanSound := by
  have hserve := scanSound_serveLoad h hs (fun l => !l.fifo.isEmpty) 4
  unfold State.endStretchedRead
  split
  · dsimp only
    split
    · exact scanSound_of_same (by simp) hserve
    · exact hs
  · exact hs

theorem scanSound_endDrain {s : State} (h : s.drivable) (hs : s.scanSound) : s.endDrain.scanSound := by
  have hserve := scanSound_serveLoad h hs (fun l => l.fifo.isEmpty) (4 * s.load.fifo.length)
  unfold State.endDrain
  split
  · dsimp only
    split
    · split <;> exact scanSound_of_same (by simp) hserve
    · exact hs
  · exact hs

theorem scanSound_endFill {s : State} (h : s.drivable) (hs : s.scanSound) : s.endFill.scanSound := by
  have hserve := scanSound_serveLoad h hs (fun l => l.remaining == 0) s.load.remaining
  unfold State.endFill
  split
  · dsimp only
    split
    · exact scanSound_of_same (by simp) hserve
    · exact hs
  · exact hs

theorem scanSound_endSnapshot {s : State} (h : s.drivable) (hs : s.scanSound) : s.endSnapshot.scanSound := by
  rcases running_or_not s .snapshot with ⟨j, rest, hjobs, hkind⟩ | hnone
  · rw [endSnapshot_of_running hjobs hkind]
    exact scanSound_of_same (by simp [State.jobLeft]) (scanSound_serveJob h hs)
  · rw [endSnapshot_of_not_running hnone]
    exact hs

theorem scanSound_endCommit {s : State} (h : s.drivable) (hs : s.scanSound) : s.endCommit.scanSound := by
  rcases running_or_not s .commit with ⟨j, rest, hjobs, hkind⟩ | hnone
  · rw [endCommit_of_running hjobs hkind]
    exact scanSound_of_same (by simp [State.committed, State.jobLeft]) (scanSound_serveJob h hs)
  · rw [endCommit_of_not_running hnone]
    exact hs

/-! ### Every command and event -/

theorem scanSound_writeRegister {s : State} (hs : s.scanSound) (r : Reg) (w : Word) :
    (s.writeRegister r w).scanSound := by
  cases r with
  | command =>
    change (State.commandEffect { s with bus := { s.bus with command := w } } w).1.scanSound
    unfold State.commandEffect
    split
    case h_15 => exact scanSound_of_none rfl
    all_goals exact scanSound_of_same (by simp) hs
  | _ => exact scanSound_of_same (by simp [State.writeRegister]) hs

/-- The effect of every command and event that has a route keeps the formed codes free of GROUND. Those not named leave
the scan alone. -/
theorem scanSound_effect {s : State} (c : Instr) (hc : route c ≠ none) (h : s.drivable) (hs : s.scanSound) :
    (s.effect c).scanSound := by
  cases hw : registerWriteOf c with
  | some rw => exact effect_of_registerWriteOf hw s ▸ scanSound_writeRegister hs rw.1 rw.2
  | none =>
    cases c with
    | frameTimerExpiry o => exact scanSound_of_frameShape hs (frameShape_expireFrameTimer s o)
    | frameStart o => exact scanSound_of_frameShape hs (frameShape_frameStart s o)
    | scanEnd o => exact scanSound_of_frameShape hs (frameShape_scanEnds s o)
    | idleCountReached o => exact scanSound_of_frameShape hs (frameShape_reachIdle s o)
    | dischargeCountReached => exact scanSound_of_frameShape hs (frameShape_reachDischarge s)
    | periodicConversionRequest o => exact scanSound_of_frameShape hs (frameShape_reachPeriod s o)
    | quadAccess => exact scanSound_quadAccess h hs
    | stretchedWriteComplete => exact scanSound_endStretchedWrite h hs
    | stretchedReadComplete => exact scanSound_endStretchedRead h hs
    | drainEnd => exact scanSound_endDrain h hs
    | fillEnd => exact scanSound_endFill h hs
    | snapshotEnd => exact scanSound_endSnapshot h hs
    | commitEnd => exact scanSound_endCommit h hs
    | unknownCommand code => exact hs
    | vddApplied | pinReset | resetRelease | busAccessInReset => simp [route] at hc
    | _ => exact scanSound_of_same (by simp_all [State.effect, registerWriteOf]) hs

/-! ### Every step -/

/-- The shell of the part: the waiting commands, the phase, the PGOOD pin, the bus registers and the frame unit. -/
def State.withShell (s : State) (q : List Instr) (ph : Phase) (pg : Bool) (b : BusInterface) (f : FrameUnit) : State :=
  { s with pending := q, phase := ph, pgood := pg, bus := b, frame := f }

/-- An invariant that does not read the shell, that pin reset establishes and that the effect of every command and event
keeps, with what follows in its step and with an SCK period of a scan, is kept by every step until the blocks are
undefined. -/
theorem step_keeps_shell {P : State → Prop} (hshell : ∀ (s : State) q ph pg b f, P s → P (s.withShell q ph pg b f))
    (htick : ∀ s : State, P s → P s.tick) (hreset : ∀ s : State, P s.pinReset)
    (heffect : ∀ (s : State) (c : Instr), route c ≠ none → P s → P (s.effect c))
    (hsettle : ∀ s : State, P s → P s.settle) {s t : State} (hs : s.phase = .undefined ∨ P s)
    (h : step s = .next t) : t.phase = .undefined ∨ P t := by
  unfold step at h
  split at h
  · cases h
    exact hs.imp (by simp) (htick s)
  · rename_i c rest _
    have hrest : s.phase = .undefined ∨ P { s with pending := rest } :=
      hs.imp_right (hshell s rest s.phase s.pgood s.bus s.frame)
    have hbus (b : BusInterface) : s.phase = .undefined ∨ P { s with pending := rest, bus := b } :=
      hs.imp_right (hshell s rest s.phase s.pgood b s.frame)
    rcases exec_cases c { s with pending := rest } with
      ⟨hc, hx⟩ | ⟨hp, hc, hx⟩ | hx | hx | ⟨-, b, hx⟩ | ⟨-, hx⟩ | ⟨-, b, hx⟩ <;>
      (rw [hx] at h; cases h)
    · cases c with
      | pinReset => exact .inr (hreset _)
      | vddApplied =>
        simp only [State.effect, State.applyVdd]
        split
        · exact .inr (hreset _)
        all_goals exact .inl rfl
      | resetRelease =>
        simp only [State.effect, State.releaseReset]
        split
        · exact .inl rfl
        · rename_i hp
          have hP := hs.resolve_left fun hu => by rw [show s.phase = .inReset from hp] at hu; cases hu
          exact .inr (hshell s rest .running s.pgood s.bus _ hP)
        · exact hrest
      | busAccessInReset a =>
        simp only [State.effect, State.accessInReset]
        split
        · exact .inl rfl
        · exact hbus _
        all_goals exact hrest
      | _ => simp [route] at hc
    · have hP := hrest.resolve_left fun hu => by rw [show s.phase = .running from hp] at hu; cases hu
      exact .inr (hsettle _ (heffect _ c hc hP))
    · exact hrest
    · exact hbus _
    · exact hs.imp_right (hshell s rest s.phase b s.bus s.frame)
    · exact .inl rfl
    · exact .inl rfl

/-- The invariant of O59. -/
def State.driveKept (s : State) : Prop := s.drivable ∧ s.scanSound

theorem driveSound_iff (s : State) : s.driveSound ↔ s.driveKept := by
  constructor
  · rintro ⟨hused, hready, hslots, hjobs, hplan, hscan⟩
    exact ⟨⟨⟨hjobs, hused⟩, hready, hslots, hplan⟩, hscan⟩
  · rintro ⟨⟨⟨hjobs, hused⟩, hready, hslots, hplan⟩, hscan⟩
    exact ⟨hused, hready, hslots, hjobs, hplan, hscan⟩

/-- Settles O59: the invariant `State.driveKept` through the one step of `step_keeps_shell`. -/
theorem driveStaysSound : Obligations.DriveStaysSound := by
  intro s t hs h
  rw [driveSound_iff] at hs ⊢
  refine step_keeps_shell (P := State.driveKept) (fun s q ph pg b f hP => ⟨?_, hP.2⟩) (fun s hP => ⟨?_, ?_⟩)
    (fun s => ⟨drivable_pinReset s, scanSound_of_none rfl⟩)
    (fun s c hc hP => ⟨drivable_effect c hc hP.1, scanSound_effect c hc hP.1 hP.2⟩)
    (fun s hP => ⟨drivable_settle hP.1, scanSound_settle hP.2⟩) hs h
  · exact drivable_of_same (s := s) rfl rfl rfl rfl rfl rfl hP.1
  · exact drivable_of_same (by simp) (by simp) (by simp) (by simp) (by simp) (by simp) hP.1
  · exact scanSound_tick hP.1 hP.2

end Sys2Proof.Machine

/-! PROOFS. The slots at a frame start (R97 to R99, R125) and the slots cut by a cancel or a power loss notice (R96, R102,
R104). -/

namespace Sys2Proof.Machine

/-! ### A frame start (R97 to R99) -/

theorem regionFrame_of_on {s : State} (h : s.power.state = .on) :
    s.regionFrame = State.dischargeIfDue { s.advanced with plan := s.advanced.makePlan } := if_pos h

theorem regionFrame_of_not_on {s : State} (h : s.power.state ≠ .on) : s.regionFrame = { s with plan := [] } := if_neg h

/-- The slots whose drive this frame start finishes (R98). -/
theorem finishesDrive_eq (sl : Slot) :
    sl.finishesDrive = decide (sl.state = .driving ∧ sl.frameTotal ≤ sl.framesDriven) := by
  cases hst : sl.state <;> simp [Slot.finishesDrive, hst]

/-- The discharge that down-pending waits for, said of one slot (R125). -/
theorem dischargeIfDue_eq (s : State) [Decidable (∀ n, (s.slot n).state ≠ .starting ∧ (s.slot n).state ≠ .driving)] :
    s.dischargeIfDue =
      if s.power.state = .on ∧ s.power.downPending = true ∧
          ∀ n, (s.slot n).state ≠ .starting ∧ (s.slot n).state ≠ .driving then
        { s with power := { s.power with state := .discharging, downPending := false, dischargeCount := 0 } }
      else s := by
  have hidle : (!s.anyActive) = true ↔ ∀ n, (s.slot n).state ≠ .starting ∧ (s.slot n).state ≠ .driving := by
    rw [Bool.not_eq_true', anyActive_eq_false_iff]
  simp only [State.dischargeIfDue, hidle]
  rfl

/-- Settles O39: outside ON the plan is emptied; in ON the slots act, the commit jobs join and the plan is made, before the
discharge that may be due. -/
theorem slotsAtAFrameStart : Obligations.SlotsAtAFrameStart := by
  intro s
  refine ⟨regionFrame_of_not_on, fun h => ⟨{ s.advanced with plan := s.advanced.makePlan }, regionFrame_of_on h,
    fun n => ?_, ?_, ?_, rfl⟩, dischargeIfDue_eq s⟩
  · exact slot_advanced s n
  · simp only [← finishesDrive_eq]
    rfl
  · simp only [← beq_eq_decide]
    rfl

/-! ### Cuts (R96, R99, R102, R104, R105) -/

theorem slot_ended (s : State) (n : Fin 16) (o : SlotOutcome) :
    (s.setSlot n { s.slot n with state := .ending, outcome := some o }).slot n =
        { s.slot n with state := .ending, outcome := some o } ∧
      ∀ m, m ≠ n → (s.setSlot n { s.slot n with state := .ending, outcome := some o }).slot m = s.slot m :=
  ⟨(slot_setSlot s n n _).trans (if_pos rfl), fun m hm => (slot_setSlot s n m _).trans (if_neg hm)⟩

/-- Settles O43: each cut by the slot's state, and the cuts of several slots in the order given. -/
theorem slotsAreCut : Obligations.SlotsAreCut := by
  intro s n o
  refine ⟨fun hstarting hdriving => cutSlot_of_not_active ?_ o, fun hst => ?_, fun hst => ?_, rfl, fun _ => rfl⟩
  · rw [active_iff, not_or]
    exact ⟨hstarting, hdriving⟩
  · obtain ⟨hn, hother⟩ := slot_ended s n o
    refine ⟨(s.abandonSnapshot n).setSlot n { s.slot n with state := .ending, outcome := some o }, ?_, hn, hother, ?_,
      rfl⟩
    · simp only [State.cutSlot, hst]
      rfl
    · exact List.filter_congr fun j _ => by simp [Bool.not_and, beq_eq_decide]
  · obtain ⟨hn, hother⟩ := slot_ended s n o
    refine ⟨((s.leavePlan n).updateClaimed (s.slot n).rect fun _ t => t.makeUnknown).setSlot n
      { s.slot n with state := .ending, outcome := some o }, ?_, hn, hother, ?_, fun k => ?_, rfl⟩
    · simp only [State.cutSlot, hst]
      rfl
    · exact List.filter_congr fun p _ => by simp [bne, beq_eq_decide]
    · exact tiles_updateClaimed (s.leavePlan n) (s.slot n).rect _ k

end Sys2Proof.Machine

/-! PROOFS. The accesses of a job served one after another (R95, R100; log 7): the pixels of the rectangle that the job had
still to reach, and everything else as it was. -/

namespace Sys2Proof.Machine

/-! ### The order in which a job reaches the quads of its rectangle (R95) -/

/-- The number, in the job's order, of the quad that holds pixel (x, y) of the rectangle. -/
def Rect.quadIndex (r : Rect) (x y : Nat) : Nat := (y - r.y) * r.quadsPerRow + (x / 4 - r.x / 4)

theorem Rect.contains_iff (r : Rect) (x y : Nat) :
    r.contains x y = true ↔ r.x ≤ x ∧ x < r.x + r.w ∧ r.y ≤ y ∧ y < r.y + r.h := by
  simp [Rect.contains, and_assoc]

theorem Rect.legal_iff (r : Rect) (w h : Nat) :
    r.legal w h = true ↔ 1 ≤ r.w ∧ 1 ≤ r.h ∧ r.x + r.w ≤ w ∧ r.y + r.h ≤ h := by
  simp only [Rect.legal, Bool.and_eq_true, decide_eq_true_eq, and_assoc]

/-- The quad of a pixel of the rectangle is one of the rectangle's. -/
theorem quadIndex_lt {r : Rect} {x y : Nat} (h : r.contains x y = true) : r.quadIndex x y < r.quads := by
  obtain ⟨hx, hx', hy, hy'⟩ := (r.contains_iff x y).mp h
  have hcol : x / 4 - r.x / 4 < r.quadsPerRow := by
    unfold Rect.quadsPerRow
    omega
  calc r.quadIndex x y < (y - r.y) * r.quadsPerRow + r.quadsPerRow := Nat.add_lt_add_left hcol _
    _ = (y - r.y + 1) * r.quadsPerRow := (Nat.succ_mul _ _).symm
    _ ≤ r.h * r.quadsPerRow := Nat.mul_le_mul_right _ (by omega)
    _ = r.quads := Nat.mul_comm _ _

/-- A pixel of the rectangle is in the quad that the job has reached where it is in its column of quads and its row. -/
theorem quadIndex_eq_iff {r : Rect} {x y : Nat} (h : r.contains x y = true) (j : Job) :
    r.quadIndex x y = j.quadsDone ↔ x / 4 = j.quad r ∧ y = j.row r := by
  obtain ⟨hx, hx', hy, hy'⟩ := (r.contains_iff x y).mp h
  have hcol : x / 4 - r.x / 4 < r.quadsPerRow := by
    unfold Rect.quadsPerRow
    omega
  have hunique := Nat.div_mod_unique (a := j.quadsDone) (c := x / 4 - r.x / 4) (d := y - r.y)
    (b := r.quadsPerRow) (by omega)
  unfold Rect.quadIndex Job.quad Job.row
  rw [Nat.add_comm, Nat.mul_comm]
  constructor
  · intro heq
    obtain ⟨hdiv, hmod⟩ := hunique.mpr ⟨heq, hcol⟩
    omega
  · rintro ⟨hq, hrow⟩
    exact (hunique.mp ⟨by omega, by omega⟩).1

theorem Job.source_ne_dest (k : JobKind) : k.source ≠ k.dest := by cases k <;> simp [JobKind.source, JobKind.dest]

/-! ### What one access of the running job writes -/

/-- The level that the running job reads of pixel (x, y): as it holds it where it has read its quad, else as it stands. -/
def State.jobRead (s : State) (j : Job) (x y : Nat) : Level :=
  match j.held with
  | some v =>
    if (s.slot j.slot).rect.quadIndex x y = j.quadsDone then v[(Fin.ofNat 4 x)] else s.pixel j.kind.source x y
  | none => s.pixel j.kind.source x y

section Served

variable {s : State} {j : Job} {rest : List Job} {x y : Nat}

/-- The write of a quad gives the pixels of the quad inside the rectangle the level that the job writes, and no other. -/
theorem pixel_jobAccess_of_held {v : Quad} (hjobs : s.jobs = j :: rest)
    (h : j.quadsDone < (s.slot j.slot).rect.quads) (hheld : j.held = some v)
    (hr : (s.slot j.slot).rect.x + (s.slot j.slot).rect.w ≤ 1024) (p : Plane) (hx : x < 1024) :
    s.jobAccess.pixel p x y =
      if p = j.kind.dest ∧ (s.slot j.slot).rect.contains x y = true ∧
          (s.slot j.slot).rect.quadIndex x y = j.quadsDone then
        s.jobLevel j.kind (s.slot j.slot).mode v[(Fin.ofNat 4 x)]
      else s.pixel p x y := by
  split
  · rename_i hin
    obtain ⟨rfl, hcontains, hquad⟩ := hin
    obtain ⟨hq, rfl⟩ := (quadIndex_eq_iff hcontains j).mp hquad
    obtain ⟨hlo, hhi, -⟩ := (Rect.contains_iff _ _ _).mp hcontains
    have hcol : 4 * j.quad (s.slot j.slot).rect + (Fin.ofNat 4 x).val = x := by
      simp only [Fin.ofNat]
      omega
    have hinside := pixel_jobAccess_inside hjobs h hheld hr (Fin.ofNat 4 x) (by omega) (by omega)
    rwa [hcol] at hinside
  · rename_i hout
    refine pixel_jobAccess_outside hjobs h hheld hr hx ?_
    by_contra hin
    push Not at hin
    obtain ⟨hp, hrow, hq, hlo, hhi⟩ := hin
    have hrange : j.quadsDone / (s.slot j.slot).rect.quadsPerRow < (s.slot j.slot).rect.h :=
      Nat.div_lt_of_lt_mul h
    have hcontains : (s.slot j.slot).rect.contains x y = true := by
      rw [Rect.contains_iff, hrow, Job.row]
      exact ⟨hlo, hhi, Nat.le_add_right _ _, Nat.add_lt_add_left hrange _⟩
    exact hout ⟨hp, hcontains, (quadIndex_eq_iff hcontains j).mpr ⟨hq, hrow⟩⟩

end Served

/-! ### What the running job leaves -/

/-- What a pixel holds once the running job has made every access it has still to make. -/
def State.jobOutcome (s : State) (j : Job) (p : Plane) (x y : Nat) : Level :=
  if p = j.kind.dest ∧ (s.slot j.slot).rect.contains x y = true ∧
      j.quadsDone ≤ (s.slot j.slot).rect.quadIndex x y then
    s.jobLevel j.kind (s.slot j.slot).mode (s.jobRead j x y)
  else s.pixel p x y

/-- The accesses that a job over a rectangle has still to make: a read and a write for each quad, the read of the present
one perhaps made. -/
def Job.accessesLeft (j : Job) (r : Rect) : Nat := 2 * (r.quads - j.quadsDone) - j.held.toList.length

/-- A job past its last quad has nothing left to write. -/
theorem jobOutcome_of_done {s : State} {j : Job} (h : (s.slot j.slot).rect.quads ≤ j.quadsDone) (p : Plane) (x y : Nat) :
    s.jobOutcome j p x y = s.pixel p x y := by
  refine if_neg ?_
  rintro ⟨-, hcontains, hle⟩
  exact absurd (quadIndex_lt hcontains) (by omega)

/-- What the outcome reads of the state: the planes, the slots and the descriptors. -/
theorem jobOutcome_congr {s t : State} (hi : t.image = s.image) (hf : t.freeIndex = s.freeIndex)
    (hs : t.slots = s.slots) (hm : t.store = s.store) (j : Job) (p : Plane) (x y : Nat) :
    t.jobOutcome j p x y = s.jobOutcome j p x y := by
  simp only [State.jobOutcome, State.jobRead, State.jobLevel, slot_of_slots hs, mode_of_store hm, pixel_of_image hi hf]

/-- The read of a quad changes no level that the job is to write. -/
theorem jobOutcome_of_read {s : State} {j : Job} (hheld : j.held = none) (p : Plane) (x y : Nat) :
    s.jobOutcome { j with
        held := some (s.readQuad j.kind.source (j.quad (s.slot j.slot).rect) (j.row (s.slot j.slot).rect)) } p x y =
      s.jobOutcome j p x y := by
  by_cases hin : p = j.kind.dest ∧ (s.slot j.slot).rect.contains x y = true ∧
      j.quadsDone ≤ (s.slot j.slot).rect.quadIndex x y
  · obtain ⟨-, hcontains, -⟩ := id hin
    simp only [State.jobOutcome, if_pos hin, State.jobRead, hheld]
    split
    · rename_i hquad
      obtain ⟨hq, hrow⟩ := (quadIndex_eq_iff hcontains j).mp hquad
      have hcol : 4 * j.quad (s.slot j.slot).rect + (Fin.ofNat 4 x).val = x := by
        simp only [Fin.ofNat]
        omega
      rw [getElem_readQuad, hcol, ← hrow]
    · rfl
  · simp only [State.jobOutcome, if_neg hin]

/-- The write of the quad that the job has read brings the outcome nearer and does not change it. -/
theorem jobOutcome_of_write {s : State} {j : Job} {rest : List Job} {v : Quad} (hjobs : s.jobs = j :: rest)
    (h : j.quadsDone < (s.slot j.slot).rect.quads) (hheld : j.held = some v)
    (hr : (s.slot j.slot).rect.x + (s.slot j.slot).rect.w ≤ 1024) (p : Plane) {x : Nat} (hx : x < 1024) (y : Nat) :
    s.jobAccess.jobOutcome { j with quadsDone := j.quadsDone + 1, held := none } p x y = s.jobOutcome j p x y := by
  have hslot : ∀ n, s.jobAccess.slot n = s.slot n := slot_of_slots (by simp)
  have hmode : ∀ m, s.jobAccess.mode m = s.mode m := mode_of_store (by simp)
  have hpixel (q : Plane) := pixel_jobAccess_of_held (y := y) hjobs h hheld hr q hx
  have hsource : s.jobAccess.pixel j.kind.source x y = s.pixel j.kind.source x y :=
    (hpixel _).trans (if_neg fun hin => Job.source_ne_dest _ hin.1)
  simp only [State.jobOutcome, State.jobRead, State.jobLevel, hslot, hmode, hsource, hheld]
  rw [hpixel p]
  by_cases hin : p = j.kind.dest ∧ (s.slot j.slot).rect.contains x y = true
  · obtain ⟨hp, hcontains⟩ := hin
    rcases Nat.lt_trichotomy ((s.slot j.slot).rect.quadIndex x y) j.quadsDone with hlt | heq | hgt
    · simp [hp, hcontains, Nat.not_le.mpr hlt, hlt.ne, Nat.not_le.mpr (Nat.lt_succ_of_lt hlt)]
    · simp [hp, hcontains, heq, State.jobLevel]
    · simp [hp, hcontains, Nat.succ_le_of_lt hgt, hgt.le, hgt.ne']
  · have hout (c : Prop) : ¬(p = j.kind.dest ∧ (s.slot j.slot).rect.contains x y = true ∧ c) :=
      fun ⟨hp, hcontains, _⟩ => hin ⟨hp, hcontains⟩
    rw [if_neg (hout _), if_neg (hout _), if_neg (hout _)]

/-- One access of a job that has a quad left keeps the outcome. -/
theorem jobAccess_keeps_outcome {s : State} {j : Job} {rest : List Job} (hjobs : s.jobs = j :: rest)
    (h : j.quadsDone < (s.slot j.slot).rect.quads) (hr : (s.slot j.slot).rect.x + (s.slot j.slot).rect.w ≤ 1024) :
    ∃ j', s.jobAccess.jobs = j' :: rest ∧ j'.slot = j.slot ∧
      j'.accessesLeft (s.slot j.slot).rect + 1 = j.accessesLeft (s.slot j.slot).rect ∧
      ∀ p x y, x < 1024 → s.jobAccess.jobOutcome j' p x y = s.jobOutcome j p x y := by
  cases hheld : j.held with
  | none =>
    rw [jobAccess_of_read hjobs h hheld]
    refine ⟨_, rfl, rfl, ?_, fun p x y _ => jobOutcome_of_read hheld p x y⟩
    simp only [Job.accessesLeft, hheld, Option.toList_none, Option.toList_some, List.length_cons, List.length_nil]
    omega
  | some v =>
    refine ⟨{ j with quadsDone := j.quadsDone + 1, held := none }, by rw [jobAccess_of_write hjobs h hheld], rfl, ?_,
      fun p x y hx => jobOutcome_of_write hjobs h hheld hr p hx y⟩
    simp only [Job.accessesLeft, hheld, Option.toList_none, Option.toList_some, List.length_cons, List.length_nil]
    omega

/-- Enough accesses bring every pixel to its outcome. -/
theorem pixel_jobAccesses {n : Nat} {s : State} {j : Job} {rest : List Job} (hjobs : s.jobs = j :: rest)
    (hr : (s.slot j.slot).rect.x + (s.slot j.slot).rect.w ≤ 1024) (hfuel : j.accessesLeft (s.slot j.slot).rect ≤ n)
    (p : Plane) {x : Nat} (hx : x < 1024) (y : Nat) :
    (State.jobAccesses n s).pixel p x y = s.jobOutcome j p x y := by
  induction n generalizing s j with
  | zero =>
    have hlen : j.held.toList.length ≤ 1 := by cases j.held <;> simp
    unfold Job.accessesLeft at hfuel
    have hdone : (s.slot j.slot).rect.quads ≤ j.quadsDone := by omega
    exact (jobOutcome_of_done hdone p x y).symm
  | succ n ih =>
    rw [State.jobAccesses]
    by_cases h : j.quadsDone < (s.slot j.slot).rect.quads
    · obtain ⟨j', hjobs', hslot', hleft, houtcome⟩ := jobAccess_keeps_outcome hjobs h hr
      have hslot : s.jobAccess.slot j'.slot = s.slot j.slot := by
        rw [hslot']
        exact slot_of_slots (by simp) _
      rw [ih hjobs' (hslot ▸ hr) (hslot ▸ by omega), houtcome p x y hx]
    · have hdone := Nat.not_lt.mp h
      rw [jobAccess_of_done hjobs hdone, ih hjobs hr (by unfold Job.accessesLeft; omega)]

/-- Every access of the running job served leaves every pixel as the job leaves it (R95, R100). -/
theorem pixel_serveJob {s : State} {j : Job} {rest : List Job} (hjobs : s.jobs = j :: rest)
    (hr : (s.slot j.slot).rect.x + (s.slot j.slot).rect.w ≤ 1024) (p : Plane) {x : Nat} (hx : x < 1024) (y : Nat) :
    s.serveJob.pixel p x y = s.jobOutcome j p x y := by
  by_cases h : j.quadsDone < (s.slot j.slot).rect.quads
  · have hslot : ∀ n, s.serveScanReads.slot n = s.slot n := slot_of_slots (by simp)
    have hserved : s.serveScanReads.jobs = j :: rest := by simpa using hjobs
    rw [serveJob_of_needed hjobs h, pixel_jobAccesses hserved (by rwa [hslot])
      (by rw [hslot]; unfold Job.accessesLeft; omega) p hx y]
    exact jobOutcome_congr (by simp) (by simp) (by simp) (by simp) j p x y
  · rw [serveJob_of_done hjobs (Nat.not_lt.mp h), jobOutcome_of_done (Nat.not_lt.mp h)]

/-! ### Everything else -/

/-- An access of the running job changes the planes and the job alone. -/
theorem restored_jobAccess (s : State) : { s.jobAccess with image := s.image, jobs := s.jobs } = s := by
  cases hjobs : s.jobs with
  | nil =>
    simp only [State.jobAccess, hjobs]
    rw [← hjobs]
  | cons j rest =>
    by_cases h : j.quadsDone < (s.slot j.slot).rect.quads
    · cases hheld : j.held with
      | none => rw [jobAccess_of_read hjobs h hheld, ← hjobs]
      | some v => rw [← hjobs, jobAccess_write_frame hjobs h hheld]
    · rw [jobAccess_of_done hjobs (Nat.not_lt.mp h), ← hjobs]

theorem restored_jobAccesses (n : Nat) (s : State) :
    { State.jobAccesses n s with image := s.image, jobs := s.jobs } = s := by
  induction n generalizing s with
  | zero => rfl
  | succ n ih =>
    calc { State.jobAccesses n s.jobAccess with image := s.image, jobs := s.jobs }
        = { { State.jobAccesses n s.jobAccess with image := s.jobAccess.image, jobs := s.jobAccess.jobs } with
            image := s.image, jobs := s.jobs } := rfl
      _ = { s.jobAccess with image := s.image, jobs := s.jobs } := by rw [ih]
      _ = s := restored_jobAccess s

/-- Past the planes and the job list, what an end serves first are the scan reads that wait (log 7). -/
theorem restored_serveJob {s : State} {j : Job} {rest : List Job} (hjobs : s.jobs = j :: rest) :
    { s.serveJob with image := s.image, jobs := s.jobs } =
      if j.quadsDone < (s.slot j.slot).rect.quads then s.serveScanReads else s := by
  split
  · rename_i h
    have himage : s.serveScanReads.image = s.image := by simp
    have hsame : s.serveScanReads.jobs = s.jobs := by simp
    rw [serveJob_of_needed hjobs h, ← himage, ← hsame]
    exact restored_jobAccesses _ _
  · rename_i h
    rw [serveJob_of_done hjobs (Nat.not_lt.mp h)]

end Sys2Proof.Machine

/-! PROOFS. The ends of the memory jobs (O41, O42): a snapshot captures TARGET in FROZEN, a commit copies FROZEN to CURRENT,
updates the tiles and ends its slot. -/

namespace Sys2Proof.Machine

/-! ### The planes that a job does not write -/

theorem plane_writePixels (s : State) {p q : Plane} (h : q ≠ p) (y : Nat) (ls : List (Nat × Level)) :
    (s.writePixels p y ls).image.plane q = s.image.plane q := by
  induction ls generalizing s with
  | nil => rfl
  | cons c t ih => rw [State.writePixels, ih, State.writePixel, ImageMemory.plane_setPlane, if_neg h]

/-- An access of the running job leaves it running, and leaves the planes it does not write. -/
theorem plane_jobAccess {s : State} {j : Job} {rest : List Job} (hjobs : s.jobs = j :: rest) {q : Plane}
    (h : q ≠ j.kind.dest) :
    s.jobAccess.image.plane q = s.image.plane q ∧ ∃ j', s.jobAccess.jobs = j' :: rest ∧ j'.kind = j.kind := by
  by_cases hleft : j.quadsDone < (s.slot j.slot).rect.quads
  · cases hheld : j.held with
    | none =>
      rw [jobAccess_of_read hjobs hleft hheld]
      exact ⟨rfl, _, rfl, rfl⟩
    | some v =>
      rw [jobAccess_of_write hjobs hleft hheld]
      exact ⟨plane_writePixels s h _ _, _, rfl, rfl⟩
  · rw [jobAccess_of_done hjobs (Nat.not_lt.mp hleft)]
    exact ⟨rfl, j, hjobs, rfl⟩

theorem plane_jobAccesses {n : Nat} {s : State} {j : Job} {rest : List Job} (hjobs : s.jobs = j :: rest) {q : Plane}
    (h : q ≠ j.kind.dest) : (State.jobAccesses n s).image.plane q = s.image.plane q := by
  induction n generalizing s j with
  | zero => rfl
  | succ n ih =>
    obtain ⟨hplane, j', hjobs', hkind⟩ := plane_jobAccess hjobs h
    rw [State.jobAccesses, ih hjobs' (hkind ▸ h), hplane]

theorem pixel_serveJob_of_plane {s : State} {j : Job} {rest : List Job} (hjobs : s.jobs = j :: rest) {q : Plane}
    (h : q ≠ j.kind.dest) (x y : Nat) : s.serveJob.pixel q x y = s.pixel q x y := by
  have hplane : s.serveJob.image.plane q = s.image.plane q := by
    by_cases hleft : j.quadsDone < (s.slot j.slot).rect.quads
    · have hserved : s.serveScanReads.jobs = j :: rest := by simpa using hjobs
      rw [serveJob_of_needed hjobs hleft, plane_jobAccesses hserved h]
      simp
    · rw [serveJob_of_done hjobs (Nat.not_lt.mp hleft)]
  simp [State.pixel, hplane]

/-! ### The pixels that a job leaves -/

section Left

variable {s t : State} {j : Job} {rest : List Job}

/-- The plane that an ended job wrote: over the rectangle, from the quad that the job had reached, the levels read; else
as it was (R95, R100). -/
theorem pixel_dest_of_served (hjobs : s.jobs = j :: rest) (hr : (s.slot j.slot).rect.legal 1024 768 = true)
    (himage : t.image = s.serveJob.image) (hfree : t.freeIndex = s.serveJob.freeIndex) (x y : Nat) (hx : x < 1024) :
    t.pixel j.kind.dest x y =
      if (s.slot j.slot).rect.contains x y = true ∧ j.quadsDone ≤ (s.slot j.slot).rect.quadIndex x y then
        s.jobLevel j.kind (s.slot j.slot).mode (s.jobRead j x y)
      else s.pixel j.kind.dest x y := by
  obtain ⟨-, -, hwidth, -⟩ := (Rect.legal_iff _ _ _).mp hr
  rw [pixel_of_image himage hfree, pixel_serveJob hjobs hwidth _ hx]
  simp only [State.jobOutcome, true_and]

/-- The other planes as they were. -/
theorem pixel_other_of_served (hjobs : s.jobs = j :: rest) (himage : t.image = s.serveJob.image)
    (hfree : t.freeIndex = s.serveJob.freeIndex) (p : Plane) (x y : Nat) (hp : p ≠ j.kind.dest) :
    t.pixel p x y = s.pixel p x y := by
  rw [pixel_of_image himage hfree, pixel_serveJob_of_plane hjobs hp]

end Left

/-! ### The end of a snapshot (R95) -/

theorem kind_serveJob (s : State) : s.serveJob.scan.map Scan.kind = s.scan.map Scan.kind := by
  cases hjobs : s.jobs with
  | nil => simp [State.serveJob, hjobs]
  | cons j rest =>
    by_cases h : j.quadsDone < (s.slot j.slot).rect.quads
    · rw [serveJob_of_needed hjobs h, ← kind_serveScanReads s]
      simp
    · rw [serveJob_of_done hjobs (Nat.not_lt.mp h)]

/-- The flag that an ended snapshot sets makes no slot active and none inactive. -/
theorem anyActive_snapshotDone (s : State) (n : Fin 16) (b : Bool) :
    (s.setSlot n { s.slot n with snapshotDone := b }).anyActive = s.anyActive := by
  have hactive (m : Fin 16) :
      ((s.setSlot n { s.slot n with snapshotDone := b }).slot m).active = (s.slot m).active := by
    rw [slot_setSlot]
    split
    · next hm => rw [hm, Slot.active, Slot.active]
    · rfl
  simp only [State.anyActive, hactive]

theorem settled_snapshotDone (s : State) (n : Fin 16) (b : Bool) :
    (s.setSlot n { s.slot n with snapshotDone := b }).settled = s.settled := by
  unfold State.settled
  rw [anyActive_snapshotDone]
  simp

/-- The state in which a snapshot that ends leaves the part. -/
def State.captured (s : State) (j : Job) (rest : List Job) : State :=
  (s.jobLeft rest).setSlot j.slot { s.slot j.slot with snapshotDone := true }

theorem exec_snapshotEnd_of_running {s : State} (h : s.runs) {j : Job} {rest : List Job} (hjobs : s.jobs = j :: rest)
    (hkind : j.kind = .snapshot) : exec .snapshotEnd s = .next (s.captured j rest) := by
  have hleft : (s.jobLeft rest).settled = s.settled :=
    settled_congr (by simp [State.jobLeft]) (by simp [State.jobLeft]) (by simp [State.jobLeft]) (kind_serveJob s)
      (by simp [State.jobLeft])
  have hsettled : (s.captured j rest).settled = true := by
    rw [State.captured, ← slot_jobLeft s rest, settled_snapshotDone, hleft]
    exact h.2
  have heffect : s.effect .snapshotEnd = s.captured j rest := endSnapshot_of_running hjobs hkind
  rw [exec_running_event rfl h.1, heffect, settle_of_settled hsettled]

theorem restored_captured {s : State} {j : Job} {rest : List Job} (hjobs : s.jobs = j :: rest) :
    { s.captured j rest with image := s.image, slots := s.slots, jobs := s.jobs } =
      if j.quadsDone < (s.slot j.slot).rect.quads then s.serveScanReads else s := by
  have hslots : s.serveJob.slots = s.slots := by simp
  calc { s.captured j rest with image := s.image, slots := s.slots, jobs := s.jobs }
      = { s.serveJob with image := s.image, slots := s.slots, jobs := s.jobs } := rfl
    _ = { s.serveJob with image := s.image, jobs := s.jobs } := by rw [← hslots]
    _ = _ := restored_serveJob hjobs

/-- A level rounded into the level set of each level count code (Table 0.4). -/
theorem roundLevel_codes (l : Level) :
    (roundLevel 0 l).toNat = (if l.toNat ≤ 7 then 0 else 15) ∧
      (roundLevel 1 l).toNat =
        (if l.toNat ≤ 2 then 0 else if l.toNat ≤ 7 then 5 else if l.toNat ≤ 12 then 10 else 15) ∧
      roundLevel 2 l = l ∧ roundLevel 3 l = l := by
  refine ⟨?_, ?_, rfl, rfl⟩
  · change (if l.toNat ≤ 7 then (0 : Level) else 15).toNat = _
    split <;> rfl
  · change (if l.toNat ≤ 2 then (0 : Level) else if l.toNat ≤ 7 then 5 else if l.toNat ≤ 12 then 10 else 15).toNat = _
    (repeat' split) <;> rfl

/-- Settles O41: the accesses left to the job, served one after another, bring every pixel of FROZEN to the job's outcome
(`pixel_serveJob`), and the rest of the state keeps what it held. -/
theorem snapshotEndCaptures : Obligations.SnapshotEndCaptures := by
  refine ⟨roundLevel_codes, fun s h => ⟨fun hnone => ?_, ?_⟩⟩
  · exact exec_event_of_keeps h rfl (endSnapshot_of_not_running hnone) ⟨rfl, rfl, rfl, rfl, rfl⟩
  · rintro ⟨n, kind, done, held⟩ rest hjobs rfl
    intro sl r quad read hr
    refine ⟨s.captured _ rest, exec_snapshotEnd_of_running h hjobs rfl, pixel_dest_of_served hjobs hr rfl rfl,
      pixel_other_of_served hjobs rfl rfl, ?_, fun m hm => ?_, rfl, restored_captured hjobs⟩
    · exact (slot_setSlot _ _ _ _).trans (if_pos rfl)
    · exact ((slot_setSlot _ _ _ _).trans (if_neg hm)).trans (slot_jobLeft s rest m)

/-! ### The end of a commit (R100, R101) -/

theorem Tile.wear_eq (t : Tile) : t.wear = ⟨t.owner, t.known, min 15 (t.count + 1)⟩ := by
  simp only [Tile.wear, Tile.mk.injEq, true_and]
  split <;> omega

/-- What a commit does to a tile of its claim set, field by field (R101). -/
theorem commitTile_eq (flash : Bool) (r : Rect) (w k : Nat) (t : Tile) :
    commitTile flash r w k t =
      if flash = true then if r.covers w k = true then ⟨t.owner, true, 0⟩ else t
      else ⟨t.owner, t.known, min 15 (t.count + 1)⟩ := by
  rw [commitTile, Tile.wear_eq]
  rfl

/-- The state in which a commit that ends offers its slot's record. -/
def State.copied (s : State) (j : Job) (rest : List Job) : State :=
  (s.committed j rest).setSlot j.slot { s.slot j.slot with state := .ending, outcome := some .done }

theorem slot_committed (s : State) (j : Job) (rest : List Job) (n : Fin 16) : (s.committed j rest).slot n = s.slot n :=
  (slot_of_slots rfl n).trans (slot_jobLeft s rest n)

theorem exec_commitEnd_of_running {s : State} (h : s.runs) {j : Job} {rest : List Job} (hjobs : s.jobs = j :: rest)
    (hkind : j.kind = .commit) : exec .commitEnd s = .next ((s.copied j rest).offer (.slot j.slot)).settle := by
  have heffect : s.effect .commitEnd = (s.copied j rest).offer (.slot j.slot) := by
    rw [State.copied, ← slot_committed s j rest]
    exact endCommit_of_running hjobs hkind
  rw [exec_running_event rfl h.1, heffect]

theorem tiles_copied (s : State) (j : Job) (rest : List Job) (k : Nat) :
    (s.copied j rest).tiles[k]? = s.tiles[k]?.map fun t =>
      if (s.slot j.slot).rect.claims s.config.panelW k = true then
        if (s.mode (s.slot j.slot).mode).flash = true then
          if (s.slot j.slot).rect.covers s.config.panelW k = true then ⟨t.owner, true, 0⟩ else t
        else ⟨t.owner, t.known, min 15 (t.count + 1)⟩
      else t := by
  have htiles : (s.jobLeft rest).tiles = s.tiles := by simp [State.jobLeft]
  refine (tiles_updateClaimed _ _ _ _).trans ?_
  simp only [htiles, config_jobLeft, commitTile_eq]

theorem restored_copied {s : State} {j : Job} {rest : List Job} (hjobs : s.jobs = j :: rest) :
    { s.copied j rest with image := s.image, slots := s.slots, tiles := s.tiles, jobs := s.jobs } =
      if j.quadsDone < (s.slot j.slot).rect.quads then s.serveScanReads else s := by
  have hslots : s.serveJob.slots = s.slots := by simp
  have htiles : s.serveJob.tiles = s.tiles := by simp
  calc { s.copied j rest with image := s.image, slots := s.slots, tiles := s.tiles, jobs := s.jobs }
      = { s.serveJob with image := s.image, slots := s.slots, tiles := s.tiles, jobs := s.jobs } := rfl
    _ = { s.serveJob with image := s.image, jobs := s.jobs } := by rw [← hslots, ← htiles]
    _ = _ := restored_serveJob hjobs

/-- Settles O42: the accesses left to the job, served one after another, bring every pixel of CURRENT to the job's outcome
(`pixel_serveJob`); the tiles and the slot are as `State.copied` says, and the rest of the state keeps what it held. -/
theorem commitEndCopies : Obligations.CommitEndCopies := by
  intro s h
  refine ⟨fun hnone => ?_, ?_⟩
  · exact exec_event_of_keeps h rfl (endCommit_of_not_running hnone) ⟨rfl, rfl, rfl, rfl, rfl⟩
  · rintro ⟨n, kind, done, held⟩ rest hjobs rfl
    intro sl r quad read hr
    refine ⟨s.copied _ rest, exec_commitEnd_of_running h hjobs rfl, pixel_dest_of_served hjobs hr rfl rfl,
      pixel_other_of_served hjobs rfl rfl, ?_, fun m hm => ?_, tiles_copied s _ rest, rfl, restored_copied hjobs⟩
    · exact (slot_setSlot _ _ _ _).trans (if_pos rfl)
    · exact ((slot_setSlot _ _ _ _).trans (if_neg hm)).trans (slot_committed s _ rest m)

end Sys2Proof.Machine

/-! PROOFS. What every step leaves behind it (R75, R118, R125), O55; and the step on an empty queue (R113), O2. -/

namespace Sys2Proof.Machine

/-! ### The phase over the effects of a running part -/

/-- Only the pins that act on the part as a whole change its phase (R162). -/
theorem phase_effect {c : Instr} (hc : route c ≠ none) (s : State) : (s.effect c).phase = s.phase := by
  cases hw : registerWriteOf c with
  | some rw =>
    rw [effect_of_registerWriteOf hw s]
    simp
  | none =>
    cases c with
    | unknownCommand code => rfl
    | vddApplied | pinReset | resetRelease | busAccessInReset => simp [route] at hc
    | _ => simp_all [State.effect, registerWriteOf]

/-! ### The invariant of O55 -/

/-- What every step leaves: nothing over, unless the blocks are undefined, and the sequencer OFF unless the part runs. -/
def State.atRest (s : State) : Prop :=
  (s.phase ≠ .undefined → s.settled = true) ∧ (s.phase ≠ .running → s.power.state = .off)

/-- In a running part the invariant is that nothing is left over. -/
theorem atRest_of_running {s : State} (hp : s.phase = .running) (h : s.settled = true) : s.atRest :=
  ⟨fun _ => h, fun hne => absurd hp hne⟩

/-- An update of what neither the end of a step nor the sequencer reads. -/
theorem atRest_of_keeps {s t : State} (h : s.atRest) (hphase : t.phase = s.phase) (hk : s.keeps t) : t.atRest := by
  obtain ⟨hslots, hqueue, hdispatcher, hscan, hpower⟩ := hk
  rw [State.atRest, settled_congr hslots hqueue hdispatcher hscan hpower, hphase, hpower]
  exact h

/-- The effect of a command or event that a running part takes, with what follows in its step. -/
theorem atRest_settle_effect {c : Instr} (hc : route c ≠ none) {s : State} (hp : s.phase = .running) :
    (s.effect c).settle.atRest := by
  refine atRest_of_running ?_ (settled_settle _)
  rw [← hp, ← phase_effect hc s]
  simp

/-- The blocks drawn afresh are undefined, with the sequencer OFF (R162). -/
theorem atRest_redraw (s : State) (b : Bool) : State.atRest { s.redraw with pgood := b } :=
  ⟨fun h => absurd rfl h, fun _ => rfl⟩

/-- A pin reset stops every scan and pass, with the sequencer OFF (R132, R162). -/
theorem atRest_pinReset (s : State) : s.pinReset.atRest :=
  ⟨fun _ => rfl, fun _ => rfl⟩

theorem kind_tick (s : State) : s.tick.scan.map Scan.kind = s.scan.map Scan.kind := by
  unfold State.tick
  split
  · rename_i sc _ hsc
    unfold State.tickScan
    rw [hsc]
    split
    · rfl
    · split
      · rfl
      · rw [hsc]
  · rfl

theorem atRest_tick {s : State} (h : s.atRest) : s.tick.atRest :=
  atRest_of_keeps h (by simp) ⟨by simp, by simp, by simp, kind_tick s, by simp⟩

/-- The pins that act on the part as a whole, and an access made while nRESET is low. -/
theorem atRest_effect_of_no_route {c : Instr} (hc : route c = none) {s : State} (h : s.atRest) : (s.effect c).atRest := by
  cases c with
  | vddApplied =>
    simp only [State.effect, State.applyVdd]
    split
    · exact atRest_pinReset _
    all_goals exact atRest_redraw s s.pgood
  | pinReset => exact atRest_pinReset s
  | resetRelease =>
    simp only [State.effect, State.releaseReset]
    split
    · exact atRest_redraw s s.pgood
    · rename_i hp
      exact atRest_of_running rfl (h.1 (by simp [hp]))
    · exact h
  | busAccessInReset a =>
    simp only [State.effect, State.accessInReset]
    split
    · exact atRest_redraw s s.pgood
    · exact atRest_of_keeps h rfl ⟨rfl, rfl, rfl, rfl, rfl⟩
    all_goals exact h
  | _ => simp [route] at hc

theorem exec_atRest {c : Instr} {s t : State} (h : s.atRest) (hx : exec c s = .next t) : t.atRest := by
  rcases exec_cases c s with
    ⟨hc, ht⟩ | ⟨hp, hc, ht⟩ | ht | ht | ⟨-, b, ht⟩ | ⟨-, ht⟩ | ⟨-, b, ht⟩ <;>
    (rw [ht] at hx; cases hx)
  · exact atRest_effect_of_no_route hc h
  · exact atRest_settle_effect hc hp
  · exact h
  · exact atRest_of_keeps h rfl ⟨rfl, rfl, rfl, rfl, rfl⟩
  · exact atRest_of_keeps h rfl ⟨rfl, rfl, rfl, rfl, rfl⟩
  · exact atRest_redraw s s.pgood
  · exact atRest_redraw s b

theorem step_atRest {s t : State} (hs : s.atRest) (h : step s = .next t) : t.atRest := by
  unfold step at h
  split at h
  · cases h
    exact atRest_tick hs
  · rename_i c rest _
    have hrest : State.atRest { s with pending := rest } := atRest_of_keeps hs rfl ⟨rfl, rfl, rfl, rfl, rfl⟩
    exact exec_atRest hrest h

/-- Settles O55: the invariant `State.atRest`, which `settled_settle` establishes at the end of each step that a running
part takes. -/
theorem stepsEndSettled : Obligations.StepsEndSettled :=
  fun _ _ hsettled hoff h => step_atRest ⟨hsettled, hoff⟩ h

/-! ### An empty queue (R113) -/

theorem step_of_empty {s : State} (h : s.pending = []) : step s = .next s.tick := by
  simp [step, h]

theorem tick_of_idle {s : State} (h : s.scan = none ∨ s.phase ≠ .running) : s.tick = s := by
  unfold State.tick
  split
  · rename_i hp hsc
    simp [hp, hsc] at h
  · rfl

theorem tick_of_scan {s : State} {sc : Scan} (hp : s.phase = .running) (h : s.scan = some sc) :
    s.tick = s.tickScan sc := by
  simp [State.tick, hp, h]

/-- An SCK period within a line time. -/
theorem tickScan_of_period (s : State) {sc : Scan} (h : sc.period < sc.w / 8 + 2) :
    s.tickScan sc = { s with scan := some { sc with period := sc.period + 1 } } :=
  if_pos h

/-- The last SCK period of a line time: the next line begins with the row formed for it. -/
theorem tickScan_of_line (s : State) {sc : Scan} (h : sc.w / 8 + 2 ≤ sc.period) (hline : sc.line < sc.h + 4) :
    s.tickScan sc = { s with scan := some { sc with
      line := sc.line + 1, period := 1, shifting := s.nextRow sc, formed := [], fromRead := none } } :=
  (if_neg (Nat.not_lt.mpr h)).trans (if_pos hline)

/-- The last SCK period of the last line time stays. -/
theorem tickScan_of_end (s : State) {sc : Scan} (h : sc.w / 8 + 2 ≤ sc.period) (hline : sc.h + 4 ≤ sc.line) :
    s.tickScan sc = s :=
  (if_neg (Nat.not_lt.mpr h)).trans (if_neg (Nat.not_lt.mpr hline))

/-- Settles O2: the part idles, or one SCK period of the scan passes, by the place of the scan in its frame. -/
theorem emptyQueueIdlesOrScans : Obligations.EmptyQueueIdlesOrScans := by
  intro s hempty
  rw [step_of_empty hempty]
  refine ⟨fun h => by rw [tick_of_idle h], fun sc hp hsc => ?_⟩
  rw [tick_of_scan hp hsc]
  exact ⟨fun h => by rw [tickScan_of_period s h], fun h hline => by rw [tickScan_of_line s h hline],
    fun h hline => by rw [tickScan_of_end s h hline]⟩

end Sys2Proof.Machine

/-! PROOFS. Frame starts delivered, held and late (R110, R111, R117), O44; and when a scan begins and stops (R112, R118),
O45. -/

namespace Sys2Proof.Machine

/-! ### The delivery of a frame start (R110, R111) -/

/-- A frame start leaves the frame unit counted on, with the next period running (R110). -/
theorem frame_deliverFrame (s : State) (o : FrameOrder) :
    (s.deliverFrame o).frame = ⟨some s.config.frameTime, false, s.frame.counter + 1⟩ := by
  cases o <;> simp [State.deliverFrame]

/-- Apart from the blocks that take a frame start, a delivery leaves the state as it was (R111). -/
theorem restored_deliverFrame (s : State) (o : FrameOrder) :
    { s.deliverFrame o with
      frame := s.frame, temp := s.temp, slots := s.slots, jobs := s.jobs, plan := s.plan, power := s.power,
      scan := s.scan } = s := by
  simp

/-! ### The frame timer's expiry, the end of a scan and FRAME_START (R110, R113, R117) -/

/-- The port idle, with nothing else changed: what the end of a scan leaves (R113). -/
def State.scanStopped (s : State) : State := { s with scan := none }

/-- The port idle and FRAME_LATE raised: what the end of a scan leaves for the frame start that it held (R117). -/
def State.lateForFrame (s : State) : State := { s with scan := none, events := s.events ||| (1#10 <<< 9) }

/-- The frame start held, and the timer stopped: what an expiry during a scan leaves (R117). -/
def State.frameHeld (s : State) : State := { s with frame := ⟨none, true, s.frame.counter⟩ }

theorem endScan_of_held {s : State} (h : s.frame.held = true) (o : FrameOrder) :
    s.endScan o = s.lateForFrame.deliverFrame o :=
  if_pos h

theorem endScan_of_not_held {s : State} (h : s.frame.held = false) (o : FrameOrder) : s.endScan o = s.scanStopped :=
  if_neg (by simp [h])

theorem scanEnds_of_none {s : State} (h : s.scan = none) (o : FrameOrder) : s.scanEnds o = s :=
  if_neg (by simp [h])

theorem scanEnds_of_some {s : State} (h : s.scan ≠ none) (o : FrameOrder) : s.scanEnds o = s.endScan o :=
  if_pos (Option.isSome_iff_ne_none.mpr h)

theorem frameStart_of_held {s : State} (h : s.scan ≠ none) (hheld : s.frame.held = true) (o : FrameOrder) :
    s.frameStart o = s.lateForFrame.deliverFrame o :=
  if_pos (by simp [Option.isSome_iff_ne_none, h, hheld])

theorem frameStart_of_not_held {s : State} (h : s.scan = none ∨ s.frame.held = false) (o : FrameOrder) :
    s.frameStart o = s.scanStopped.deliverFrame o :=
  if_neg (by rcases h with h | h <;> simp [h])

theorem expireFrameTimer_of_stopped {s : State} (h : s.frame.period = none) (o : FrameOrder) :
    s.expireFrameTimer o = s := by
  simp [State.expireFrameTimer, h]

theorem expireFrameTimer_of_free {s : State} (h : s.frame.period ≠ none) (hscan : s.scan = none) (o : FrameOrder) :
    s.expireFrameTimer o = s.deliverFrame o := by
  obtain ⟨p, hp⟩ := Option.ne_none_iff_exists'.mp h
  simp [State.expireFrameTimer, hp, hscan]

/-- A scan in progress holds the frame start (R117). -/
theorem expireFrameTimer_of_scan {s : State} (h : s.frame.period ≠ none) (hscan : s.scan ≠ none) (o : FrameOrder) :
    s.expireFrameTimer o = s.frameHeld := by
  obtain ⟨p, hp⟩ := Option.ne_none_iff_exists'.mp h
  obtain ⟨sc, hsc⟩ := Option.ne_none_iff_exists'.mp hscan
  simp [State.expireFrameTimer, hp, hsc, State.frameHeld]

/-- The end of a scan leaves nothing over. -/
theorem settled_scanStopped {s : State} (h : s.settled = true) : s.scanStopped.settled = true := by
  obtain ⟨hdue, -, hpass⟩ := (settled_iff s).mp h
  have hhome : s.scanStopped.scanHome := by simp [State.scanHome, State.scanStopped]
  exact (settled_iff _).mpr ⟨hdue, hhome, hpass⟩

theorem settled_frameHeld {s : State} (h : s.settled = true) : s.frameHeld.settled = true := h

/-- Settles O44: the delivery and what it leaves alone; then each event by whether a scan is in progress and a frame start
is held, and what follows in its step. -/
theorem frameStartDelivery : Obligations.FrameStartDelivery := by
  refine ⟨fun s o => ⟨by cases o <;> rfl, frame_deliverFrame s o, restored_deliverFrame s o⟩, fun s o hruns => ?_⟩
  obtain ⟨hp, hs⟩ := hruns
  have hexpiry : exec (.frameTimerExpiry o) s = .next (s.expireFrameTimer o).settle := exec_running_event rfl hp
  have hend : exec (.scanEnd o) s = .next (s.scanEnds o).settle := exec_running_event rfl hp
  have hstart : exec (.frameStart o) s = .next (s.frameStart o).settle := exec_running_event rfl hp
  rw [hexpiry, hend, hstart]
  refine ⟨fun h => ?_, fun h hscan => ?_, fun h hscan => ?_, fun h => ?_, fun h hheld => ?_, fun h hheld => ?_,
    fun h => ?_, fun h hheld => ?_⟩
  · rw [expireFrameTimer_of_stopped h, settle_of_settled hs]
  · rw [expireFrameTimer_of_free h hscan]
  · rw [expireFrameTimer_of_scan h hscan, settle_of_settled (settled_frameHeld hs)]
    rfl
  · rw [scanEnds_of_none h, settle_of_settled hs]
  · rw [scanEnds_of_some h, endScan_of_not_held hheld, settle_of_settled (settled_scanStopped hs)]
    rfl
  · rw [scanEnds_of_some h, endScan_of_held hheld]
    rfl
  · rw [frameStart_of_not_held h]
    rfl
  · rw [frameStart_of_held h hheld]
    rfl

/-! ### When a scan begins (R112) -/

/-- A scan at its first SCK period, with the registers as it latches them (R112, R113). -/
def State.freshScan (s : State) (k : ScanKind) : Scan :=
  ⟨k, s.config.sckDiv, s.config.panelW, s.config.panelH, 1, 1, [], [], none⟩

theorem scanFrame_of_on {s : State} (h : s.power.state = .on) (hplan : s.plan ≠ []) :
    s.scanFrame = { s with scan := some (s.freshScan .drive) } := by
  simp [State.scanFrame, h, hplan, State.freshScan]

theorem scanFrame_of_discharging {s : State} (h : s.power.state = .discharging) :
    s.scanFrame = { s with
      scan := some (s.freshScan .discharge)
      power := { s.power with dischargeCount := s.power.dischargeCount + 1 } } := by
  simp [State.scanFrame, h, State.freshScan]

/-- No scan begins in ON over an empty plan, or outside ON and DISCHARGING (R112). -/
theorem scanFrame_of_neither {s : State}
    (h : (s.power.state = .on ∧ s.plan = []) ∨ (s.power.state ≠ .on ∧ s.power.state ≠ .discharging)) :
    s.scanFrame = s := by
  unfold State.scanFrame
  cases hp : s.power.state with
  | on => simp_all
  | discharging => simp_all
  | off | rising | falling | fault => rfl

/-- Settles O45: the start of a scan by the sequencer's state and the plan, and its stop by the state it began in. -/
theorem scansBeginAndStop : Obligations.ScansBeginAndStop := by
  intro s
  refine ⟨scanFrame_of_on, scanFrame_of_discharging, scanFrame_of_neither, stopScanIfLeft_of_none, fun sc hsc => ?_⟩
  rw [← home_ne_iff]
  exact ⟨fun h => stopScanIfLeft_of_home hsc (not_not.mp h), stopScanIfLeft_of_left hsc,
    stopScanIfLeft_of_left_held hsc⟩

end Sys2Proof.Machine

/-! PROOFS. The output pins (Table 7.1, R33, R121): each pin as a function of the state, and the codes on SDO with their
places in the port's sixteen bits (R113, R115); O46. -/

namespace Sys2Proof.Machine

/-! ### DREQ, nWAIT, PWR_EN and the pins of the drive port's lines -/

theorem dreq_iff (s : State) :
    s.dreq = true ↔ s.bus.dreqEnable = true ∧
      ((s.load.state = .writing ∧ 0 < s.load.streamCount ∧ s.load.fifo.length < 32) ∨
        (s.load.state = .reading ∧ s.load.fifo ≠ [])) := by
  unfold State.dreq
  have hplaces : Config.fifoPlaces = 32 := rfl
  cases s.load.state <;> simp [hplaces]

theorem nWait_eq_false_iff (s : State) : s.nWait = false ↔ s.bus.stretched.isSome = true := by
  cases h : s.bus.stretched <;> simp [State.nWait, h]

theorem pwrEn_iff (s : State) :
    s.pwrEn = true ↔ s.power.state = .rising ∨ s.power.state = .on ∨ s.power.state = .discharging := by
  unfold State.pwrEn
  cases s.power.state <;> simp

theorem rowLine_iff (sc : Scan) : sc.rowLine = true ↔ 3 ≤ sc.line ∧ sc.line ≤ sc.h + 2 := by
  simp [Scan.rowLine]

theorem gst_iff (s : State) : s.gst = true ↔ ∃ sc, s.scan = some sc ∧ sc.line = 1 ∧ sc.period = 1 := by
  unfold State.gst
  cases s.scan <;> simp

theorem sle_iff (s : State) :
    s.sle = true ↔ ∃ sc, s.scan = some sc ∧ 3 ≤ sc.line ∧ sc.line ≤ sc.h + 2 ∧ sc.period = sc.w / 8 + 1 := by
  unfold State.sle
  cases s.scan <;> simp [rowLine_iff, and_assoc]

theorem gck_iff (s : State) :
    s.gck = true ↔ ∃ sc, s.scan = some sc ∧ 3 ≤ sc.line ∧ sc.period = sc.w / 8 + 2 := by
  unfold State.gck
  cases s.scan <;> simp

/-! ### The eight codes on SDO (R113, R115) -/

/-- A group of eight pixels is on the port: a row line time, before its last two SCK periods. -/
def Scan.shifts (sc : Scan) : Prop := 3 ≤ sc.line ∧ sc.line ≤ sc.h + 2 ∧ sc.period ≤ sc.w / 8

/-- The code of pixel j of the group that an ON scan has on the port, NEUTRAL beyond the end of the row. -/
def State.groupCode (s : State) (sc : Scan) (j : Nat) : DriveCode :=
  (sc.shifting[8 * (sc.period - 1) + j]?).elim .neutral s.shiftCode

theorem shifts_iff (sc : Scan) : (sc.rowLine && decide (sc.period ≤ sc.w / 8)) = true ↔ sc.shifts := by
  rw [Bool.and_eq_true, rowLine_iff, decide_eq_true_eq, and_assoc]
  rfl

theorem sdo_of_none {s : State} (h : s.scan = none) : s.sdo = List.replicate 8 .neutral := by
  simp [State.sdo, h]

theorem sdo_of_not_shifting {s : State} {sc : Scan} (h : s.scan = some sc) (hno : ¬sc.shifts) :
    s.sdo = List.replicate 8 .neutral := by
  simp only [State.sdo, h]
  exact if_neg (mt (shifts_iff sc).mp hno)

theorem sdo_of_discharge {s : State} {sc : Scan} (h : s.scan = some sc) (hshifts : sc.shifts)
    (hk : sc.kind = .discharge) : s.sdo = List.replicate 8 .ground := by
  simp only [State.sdo, h, (shifts_iff sc).mpr hshifts, hk, if_true]

theorem sdo_of_drive {s : State} {sc : Scan} (h : s.scan = some sc) (hshifts : sc.shifts) (hk : sc.kind = .drive) :
    s.sdo = (List.range 8).map (s.groupCode sc) := by
  simp only [State.sdo, h, (shifts_iff sc).mpr hshifts, hk, if_true]
  refine List.map_congr_left fun j _ => ?_
  unfold State.groupCode
  cases sc.shifting[8 * (sc.period - 1) + j]? <;> rfl

/-- What SDO carries: idle, the GROUND of a discharge scan, or a group of an ON scan's row. -/
theorem sdo_cases (s : State) :
    s.sdo = List.replicate 8 .neutral ∨
      (∃ sc, s.scan = some sc ∧ sc.kind = .discharge ∧ s.sdo = List.replicate 8 .ground) ∨
      ∃ sc, s.scan = some sc ∧ sc.kind = .drive ∧ s.sdo = (List.range 8).map (s.groupCode sc) := by
  cases h : s.scan with
  | none => exact .inl (sdo_of_none h)
  | some sc =>
    by_cases hshifts : sc.shifts
    · cases hk : sc.kind with
      | discharge => exact .inr (.inl ⟨sc, rfl, hk, sdo_of_discharge h hshifts hk⟩)
      | drive => exact .inr (.inr ⟨sc, rfl, hk, sdo_of_drive h hshifts hk⟩)
    · exact .inl (sdo_of_not_shifting h hshifts)

theorem length_sdo (s : State) : s.sdo.length = 8 := by
  rcases sdo_cases s with h | ⟨sc, -, -, h⟩ | ⟨sc, -, -, h⟩ <;> simp [h]

/-! ### The places of the codes in the port's bits (R113) -/

theorem DriveCode.bits_lt (c : DriveCode) : c.bits < 4 := by
  cases c <;> decide

/-- Digit j of a number in base b, given by its digits. -/
theorem ofDigits_div_pow_mod {b : Nat} {L : List Nat} (hL : ∀ d ∈ L, d < b) {j : Nat} (hj : j < L.length) :
    Nat.ofDigits b L / b ^ j % b = L[j] := by
  have hdigit : L[j] < b := hL _ (List.getElem_mem hj)
  rw [Nat.ofDigits_div_pow_eq_ofDigits_drop j (Nat.zero_lt_of_lt hdigit) L hL, List.drop_eq_getElem_cons hj,
    Nat.ofDigits_cons, Nat.add_mul_mod_self_left, Nat.mod_eq_of_lt hdigit]

/-- The port's word holds the codes as its digits in base 4, the leftmost pixel's lowest. -/
theorem toNat_sdoWord (s : State) : s.sdoWord.toNat = Nat.ofDigits 4 (s.sdo.map DriveCode.bits) := by
  have hsum : ((s.sdo.mapIdx fun j c => (2 * j, c.bits)).map fun f => f.2 * 2 ^ f.1).sum =
      Nat.ofDigits 4 (s.sdo.map DriveCode.bits) := by
    refine (congrArg List.sum (List.ext_getElem (by simp) fun j _ _ => ?_)).trans (Nat.ofDigits_eq_sum_mapIdx 4 _).symm
    simp [pow_mul]
  have hlt : Nat.ofDigits 4 (s.sdo.map DriveCode.bits) < 4 ^ (s.sdo.map DriveCode.bits).length :=
    Nat.ofDigits_lt_base_pow_length (by decide) (by simp [DriveCode.bits_lt])
  rw [List.length_map, length_sdo] at hlt
  rw [State.sdoWord, pack, hsum, BitVec.toNat_ofNat]
  exact Nat.mod_eq_of_lt hlt

theorem sdoWord_place (s : State) {j : Nat} (hj : j < s.sdo.length) :
    s.sdoWord.toNat / 4 ^ j % 4 = (s.sdo[j]).bits := by
  rw [toNat_sdoWord, ofDigits_div_pow_mod (by simp [DriveCode.bits_lt]) (by simpa using hj), List.getElem_map]

/-- The code of pixel j on SDO, by the scan in progress and its place in the frame. -/
theorem sdo_pixel (s : State) {j : Nat} (hj : j < s.sdo.length) :
    (s.scan = none → s.sdo[j] = .neutral) ∧
    (∀ sc, s.scan = some sc →
      (¬sc.shifts → s.sdo[j] = .neutral) ∧
      (sc.shifts → sc.kind = .discharge → s.sdo[j] = .ground) ∧
      (sc.shifts → ∀ p, sc.kind = .drive → sc.shifting[8 * (sc.period - 1) + j]? = some p →
        s.sdo[j] = s.shiftCode p)) := by
  refine ⟨fun h => ?_, fun sc hsc => ⟨fun hno => ?_, fun hshifts hk => ?_, fun hshifts p hk hp => ?_⟩⟩
  · simp only [sdo_of_none h, List.getElem_replicate]
  · simp only [sdo_of_not_shifting hsc hno, List.getElem_replicate]
  · simp only [sdo_of_discharge hsc hshifts hk, List.getElem_replicate]
  · simp only [sdo_of_drive hsc hshifts hk, List.getElem_map, List.getElem_range, State.groupCode, hp, Option.elim_some]

/-- Settles O46: each pin by its own lemma, and each of the eight codes on SDO with its two bits of the port. -/
theorem outputPins : Obligations.OutputPins := by
  intro s
  refine ⟨dreq_iff s, nWait_eq_false_iff s, pwrEn_iff s, Iff.rfl, Iff.rfl, gst_iff s, sle_iff s, gck_iff s,
    fun j hj => ?_⟩
  have hlen : j < s.sdo.length := (length_sdo s).symm ▸ hj
  obtain ⟨hnone, hsome⟩ := sdo_pixel s hlen
  refine ⟨s.sdo[j], List.getElem?_eq_getElem hlen, sdoWord_place s hlen, hnone, fun sc hsc => ?_⟩
  obtain ⟨hidle, hdischarge, hdrive⟩ := hsome sc hsc
  refine ⟨fun h => hidle ?_, fun h3 hh hw => ⟨hdischarge ⟨h3, hh, hw⟩, hdrive ⟨h3, hh, hw⟩⟩⟩
  rintro ⟨h3, hh, hw⟩
  omega

end Sys2Proof.Machine

/-! PROOFS. The codes of the pixels (R114, R115): the code formed for a pixel, the row shifted next, the test at the
shifting, and the sequencer's states in which GROUND, DARKEN and LIGHTEN are on SDO; O47. -/

namespace Sys2Proof.Machine

/-! ### The slot that drives a pixel, and the code formed for it (R114) -/

theorem planOf_eq_none_iff (s : State) (n : Fin 16) : s.planOf n = none ↔ ∀ p ∈ s.plan, p.slot ≠ n := by
  simp [State.planOf]

theorem planOf_isSome_iff (s : State) (n : Fin 16) : (s.planOf n).isSome = true ↔ ∃ p ∈ s.plan, p.slot = n := by
  simp [State.planOf]

theorem mem_plan_of_planOf {s : State} {n : Fin 16} {p : PlanEntry} (h : s.planOf n = some p) :
    p ∈ s.plan ∧ p.slot = n :=
  ⟨List.mem_of_find?_eq_some h, by simpa using List.find?_some h⟩

theorem driverOf_of_unowned {s : State} {x y : Nat} (h : s.ownerAt x y = none) : s.driverOf x y = none := by
  simp [State.driverOf, h]

theorem driverOf_of_not_planned {s : State} {x y : Nat} {n : Fin 16} (h : s.ownerAt x y = some n)
    (hplan : s.planOf n = none) : s.driverOf x y = none := by
  simp [State.driverOf, h, hplan]

theorem driverOf_of_planned {s : State} {x y : Nat} {n : Fin 16} {p : PlanEntry} (h : s.ownerAt x y = some n)
    (hplan : s.planOf n = some p) : s.driverOf x y = if p.rect.contains x y then some p else none := by
  simp [State.driverOf, h, hplan]

theorem formPixel_of_undriven {s : State} {x y : Nat} (h : s.driverOf x y = none) (f t : Level) :
    s.formPixel x y f t = ⟨.neutral, none⟩ := by
  simp [State.formPixel, h]

theorem formPixel_of_driven {s : State} {x y : Nat} {p : PlanEntry} (h : s.driverOf x y = some p) (f t : Level) :
    s.formPixel x y f t = ⟨s.driveLookup p.mode p.band p.frameIndex f t, some p.slot⟩ := by
  simp [State.formPixel, h]

/-! ### The row shifted next (R113) -/

/-- The pixel of a row as the scan forms it from CURRENT and FROZEN (R114). -/
def State.formedAt (s : State) (x y : Nat) : FormedPixel :=
  s.formPixel x y (s.pixel .current x y) (s.pixel .frozen x y)

theorem formQuad_readQuad (s : State) (q y : Nat) :
    s.formQuad q y (s.readQuad .current q y) (s.readQuad .frozen q y) =
      [s.formedAt (4 * q) y, s.formedAt (4 * q + 1) y, s.formedAt (4 * q + 2) y, s.formedAt (4 * q + 3) y] :=
  rfl

theorem getElem?_formRest (s : State) (y fuel q i : Nat) (h : i < 4 * fuel) :
    (s.formRest y fuel q)[i]? = some (s.formedAt (4 * q + i) y) := by
  induction fuel generalizing q i with
  | zero => omega
  | succ n ih =>
    rw [State.formRest, formQuad_readQuad]
    match i with
    | 0 | 1 | 2 | 3 => rfl
    | i + 4 =>
      rw [show 4 * q + (i + 4) = 4 * (q + 1) + i by omega, ← ih (q + 1) i (by omega)]
      rfl

/-- The codes formed so far stand at the front of the row, and the rest of the row is formed at its line's end. -/
theorem nextRow_of_readRow {sc : Scan} {y : Nat} (h : sc.readRow = some y) (s : State) :
    s.nextRow sc = sc.formed ++ s.formRest y (sc.w / 4 - sc.formed.length / 4) (sc.formed.length / 4) := by
  simp [State.nextRow, h]

theorem getElem?_nextRow {sc : Scan} {y : Nat} (h : sc.readRow = some y) (hw : sc.w % 4 = 0)
    (hquads : sc.formed.length % 4 = 0) {x : Nat} (hx : x < sc.w) (s : State) :
    (s.nextRow sc)[x]? = if x < sc.formed.length then sc.formed[x]? else some (s.formedAt x y) := by
  rw [nextRow_of_readRow h, List.getElem?_append]
  refine ite_congr rfl (fun _ => rfl) fun hge => ?_
  rw [getElem?_formRest s y _ _ _ (by omega), show 4 * (sc.formed.length / 4) + (x - sc.formed.length) = x by omega]

/-! ### The test at the shifting (R114) -/

theorem shiftCode_of_none (s : State) (c : DriveCode) : s.shiftCode ⟨c, none⟩ = .neutral := rfl

theorem shiftCode_of_some (s : State) (c : DriveCode) (n : Fin 16)
    [Decidable (∃ p ∈ s.plan, p.slot = n)] :
    s.shiftCode ⟨c, some n⟩ = if ∃ p ∈ s.plan, p.slot = n then c else .neutral := by
  simp only [← planOf_isSome_iff]
  rfl

theorem shiftCode_ne_ground (s : State) {px : FormedPixel} (h : px.code ≠ .ground) : s.shiftCode px ≠ .ground := by
  unfold State.shiftCode
  split
  · simp
  · split
    · exact h
    · simp

/-- A row without GROUND puts none on the port. -/
theorem groupCode_ne_ground (s : State) {sc : Scan} (h : noGround sc.shifting) (j : Nat) :
    s.groupCode sc j ≠ .ground := by
  unfold State.groupCode
  cases hpx : sc.shifting[8 * (sc.period - 1) + j]? with
  | none => simp
  | some px => exact shiftCode_ne_ground s (h px (List.mem_of_getElem? hpx))

/-! ### What SDO carries in each state of the sequencer (R115) -/

/-- An ON scan shifts no GROUND: it is on SDO in DISCHARGING only. -/
theorem ground_sdo {s : State} (hhome : s.scanHome) (hsound : s.scanSound) (h : DriveCode.ground ∈ s.sdo) :
    s.power.state = .discharging := by
  rcases sdo_cases s with hsdo | ⟨sc, hsc, hk, -⟩ | ⟨sc, hsc, hk, hsdo⟩
  · simp [hsdo] at h
  · rw [← hhome sc hsc, hk]
    rfl
  · rw [hsdo] at h
    obtain ⟨j, -, hj⟩ := List.mem_map.mp h
    obtain ⟨hshifting, -⟩ := (scanSound_iff s).mp hsound sc hsc
    exact absurd hj (groupCode_ne_ground s hshifting j)

/-- A discharge scan shifts GROUND alone: any code but GROUND and NEUTRAL is on SDO in ON only. -/
theorem driven_sdo {s : State} (hhome : s.scanHome) {c : DriveCode} (hneutral : c ≠ .neutral) (hground : c ≠ .ground)
    (h : c ∈ s.sdo) : s.power.state = .on := by
  rcases sdo_cases s with hsdo | ⟨sc, -, -, hsdo⟩ | ⟨sc, hsc, hk, -⟩
  · simp [hsdo, hneutral] at h
  · simp [hsdo, hground] at h
  · rw [← hhome sc hsc, hk]
    rfl

/-- Settles O47: the pixel's driver decides its code, the row is the formed codes and the rest, and SDO carries what the
scan's kind allows, which is the sequencer's state. -/
theorem pixelCodes : Obligations.PixelCodes := by
  refine ⟨fun s x y f t => ⟨planOf_eq_none_iff s, fun n p => mem_plan_of_planOf, fun h => ?_, fun n hn => ⟨fun h => ?_,
    fun p hp => ⟨fun h => ?_, fun h => ?_⟩⟩⟩, fun s sc x hk h2 hh hw hquads _ hx => ?_,
    fun s c n => ⟨shiftCode_of_none s c, shiftCode_of_some s c n⟩,
    fun s m b i f t hsound hready hb hi => driveLookup_ne_ground (hsound m hready) hb hi f t,
    fun s hruns hdrive => ?_⟩
  · exact formPixel_of_undriven (driverOf_of_unowned h) f t
  · exact formPixel_of_undriven (driverOf_of_not_planned hn h) f t
  · exact formPixel_of_undriven (by rw [driverOf_of_planned hn hp, h]; rfl) f t
  · obtain ⟨-, rfl⟩ := mem_plan_of_planOf hp
    exact formPixel_of_driven (by rw [driverOf_of_planned hn hp, h]; rfl) f t
  · exact getElem?_nextRow ((readRow_eq_some_iff sc _).mpr ⟨hk, h2, hh, rfl⟩) hw hquads hx s
  · obtain ⟨-, hhome, -⟩ := (settled_iff s).mp hruns.2
    obtain ⟨-, hscan⟩ := (driveSound_iff s).mp hdrive
    refine ⟨ground_sdo hhome hscan, ?_⟩
    rintro (h | h) <;> exact driven_sdo hhome (by decide) (by decide) h

end Sys2Proof.Machine

/-! PROOFS. What the end of a step makes of a change of the Power Sequencer, and its three commands (Table 8.2), O48. -/

namespace Sys2Proof.Machine

/-! ### The end of a step after a change of the sequencer (R118, R125) -/

/-- With the supply down no scan is in progress (R118). -/
theorem scan_eq_none_of_settled {s : State} (h : s.settled = true) (hon : s.power.state ≠ .on)
    (hdischarging : s.power.state ≠ .discharging) : s.scan = none := by
  obtain ⟨-, hhome, -⟩ := (settled_iff s).mp h
  refine Option.eq_none_iff_forall_ne_some.mpr fun sc hsc => ?_
  have hkind := hhome sc hsc
  cases hk : sc.kind <;> rw [hk] at hkind
  · exact hon hkind.symm
  · exact hdischarging hkind.symm

/-- Of the sequencer the end of a step reads the state and down-pending. -/
theorem settle_of_power_kept {s t : State} (h : s.settled = true) (hstate : t.power.state = s.power.state)
    (hdown : t.power.downPending = s.power.downPending) (hslots : t.slots = s.slots) (hqueue : t.queue = s.queue)
    (hdispatcher : t.dispatcher = s.dispatcher) (hscan : t.scan = s.scan) : t.settle = t := by
  obtain ⟨hdue, hhome, hpass⟩ := (settled_iff s).mp h
  refine settle_of_settled ((settled_iff t).mpr ⟨?_, ?_, ?_⟩)
  · rwa [State.noneDue, hstate, hdown, anyActive_of_slots hslots]
  · rwa [State.scanHome, hstate, hscan]
  · rwa [hqueue, hdispatcher]

/-- With the supply down before and after, a change of the sequencer leaves the end of the step nothing to do. -/
theorem settle_of_supply_down {s t : State} (h : s.settled = true) (hon : s.power.state ≠ .on)
    (hdischarging : s.power.state ≠ .discharging) (hafter : t.power.state ≠ .on) (hqueue : t.queue = s.queue)
    (hdispatcher : t.dispatcher = s.dispatcher) (hscan : t.scan = s.scan) : t.settle = t := by
  obtain ⟨-, -, hpass⟩ := (settled_iff s).mp h
  have hnone : t.scan = none := hscan.trans (scan_eq_none_of_settled h hon hdischarging)
  refine settle_of_settled ((settled_iff t).mpr ⟨fun hdue => hafter hdue.1, fun sc hsc => ?_, ?_⟩)
  · rw [hnone] at hsc
    cases hsc
  · rwa [hqueue, hdispatcher]

/-! ### The three commands (Table 8.2) -/

theorem enterRising_answered (s : State) (code : Word) (r : Result) :
    s.enterRising.answered code r = (s.answered code r).enterRising := by
  have hbus : s.enterRising.bus = s.bus := by simp
  have h := enterRising_withBus s { s.bus with command := code, cmdResult := r }
  simpa only [State.withBus, State.answered, hbus] using h.symm

theorem exec_powerUp {s : State} (h : s.takes) :
    exec .powerUp s = .next (s.powerUp.1.answered 0x0B s.powerUp.2).settle := by
  rw [exec_of_takes h (by simp [route]), State.effect, commanded_powerUp]

theorem exec_powerDown {s : State} (h : s.takes) :
    exec .powerDown s = .next (s.powerDown.1.answered 0x0C s.powerDown.2).settle := by
  obtain ⟨-, -, -, -, -, hcommanded, -, -⟩ := commanded_plain s
  rw [exec_of_takes h (by simp [route]), State.effect, hcommanded]

theorem exec_clearFault {s : State} (h : s.takes) :
    exec .clearFault s = .next (s.clearFault.1.answered 0x0D s.clearFault.2).settle := by
  rw [exec_of_takes h (by simp [route]), State.effect, commanded_clearFault]

/-- Settles O48, by the three columns of Table 8.2: an answer leaves the step nothing more to do, as does a change of the
sequencer with the supply down; an entry into RISING, a pass and a power-down set in ON have the end of the step follow. -/
theorem powerCommands : Obligations.PowerCommands := by
  intro s h
  have hset := h.1.2
  rw [exec_powerUp h, exec_powerDown h, exec_clearFault h]
  refine ⟨congrArg Host.Outcome.next ?_, congrArg Host.Outcome.next ?_, congrArg Host.Outcome.next ?_⟩
  · unfold State.powerUp
    cases s.power.state with
    | off => exact congrArg State.settle (enterRising_answered s _ _)
    | on =>
      by_cases hdown : s.power.downPending = true
      · simp only [hdown, if_true]
        exact congrArg State.settle (startPass_answered _ _ _)
      · simp only [hdown]
        exact settle_answered hset _ _
    | rising | discharging | falling | fault => exact settle_answered hset _ _
  · unfold State.powerDown
    cases hp : s.power.state with
    | off | fault => exact settle_answered hset _ _
    | rising =>
      exact settle_of_supply_down (t := s.enterFalling.answered _ _) hset (by simp [hp]) (by simp [hp]) nofun rfl rfl rfl
    | on => rfl
    | discharging | falling => exact settle_of_power_kept hset rfl rfl rfl rfl rfl rfl
  · unfold State.clearFault
    split
    · exact congrArg State.settle (startPass_answered _ _ _)
    · exact settle_answered hset _ _

end Sys2Proof.Machine

/-! PROOFS. PGOOD, the two timers, the entries into the sequencer's states and wake requests (R122 to R124, R127 to R130),
O49. -/

namespace Sys2Proof.Machine

/-! ### The PGOOD pin and the timers in a running part -/

/-- The PGOOD pin is taken whether or not an access is being stretched. -/
theorem exec_running_pin {c : Instr} {s : State} {level : Bool} (hc : route c = some (.pin level))
    (h : s.phase = .running) : exec c s = .next (s.effect c).settle := by
  rw [exec_shape s hc]
  exact congrArg Host.Outcome.next (pinEvent_running h level fun s => s.effect c)

/-- While nRESET is low the pin's level is all that changes (R132, R162). -/
theorem exec_pin_inReset {c : Instr} {s : State} {level : Bool} (hc : route c = some (.pin level))
    (h : s.phase = .inReset) : exec c s = .next { s with pgood := level } := by
  rw [exec_shape s hc]
  simp [State.through, State.pinEvent, h]

theorem riseOfPgood_of_rising {s : State} (h : s.power.state = .rising) :
    s.riseOfPgood = State.enterOn { s with pgood := true } := by
  simp [State.riseOfPgood, h]

theorem riseOfPgood_of_not_rising {s : State} (h : s.power.state ≠ .rising) :
    s.riseOfPgood = { s with pgood := true } := by
  cases hp : s.power.state with
  | rising => exact absurd hp h
  | off | on | discharging | falling | fault => simp [State.riseOfPgood, hp]

/-- A supply loss leaves the discharge incomplete where there was one (R124, R127). -/
theorem fallOfPgood_of_supply_up {s : State} (h : s.power.state = .on ∨ s.power.state = .discharging) :
    s.fallOfPgood = State.cutSlots
      (State.enterFault { s with pgood := false } .supplyLost (decide (s.power.state = .discharging)))
      .fault slotNumbers := by
  rcases h with h | h <;> simp [State.fallOfPgood, h]

theorem fallOfPgood_of_supply_down {s : State} (hon : s.power.state ≠ .on) (hdischarging : s.power.state ≠ .discharging) :
    s.fallOfPgood = { s with pgood := false } := by
  cases hp : s.power.state with
  | on => exact absurd hp hon
  | discharging => exact absurd hp hdischarging
  | off | rising | falling | fault => simp [State.fallOfPgood, hp]

/-- A level of PGOOD is nothing that the end of a step reads. -/
theorem settle_pgood {s : State} (h : s.settled = true) (level : Bool) :
    State.settle { s with pgood := level } = { s with pgood := level } :=
  settle_of_same h rfl rfl rfl rfl rfl

/-- A fault entered with the supply down leaves the step nothing more to do: no scan is in progress. -/
theorem settle_enterFault {s : State} (h : s.settled = true) (hon : s.power.state ≠ .on)
    (hdischarging : s.power.state ≠ .discharging) (r : FaultReason) (incomplete : Bool) :
    (s.enterFault r incomplete).settle = s.enterFault r incomplete :=
  settle_of_supply_down h hon hdischarging nofun rfl rfl rfl

theorem expireFall_of_falling {s : State} (h : s.power.state = .falling) :
    s.expireFall = if s.pgood = true then s.enterFault .fallTimeout false else s.enterOff :=
  if_pos h

/-! ### The entries into the states and a wake request -/

/-- A kept wake request is acted on where AUTO_WAKE is set (R128, R129). -/
theorem enterOff_eq (s : State) :
    s.enterOff =
      let off : State := State.startPass { s with
        events := s.events ||| (1#10 <<< 7)
        power := { s.power with state := .off, fallTimer := none, wakePending := false } }
      if s.power.wakePending = true ∧ s.bus.autoWake = true then off.enterRising else off := by
  simp only [State.enterOff, Bool.and_eq_true, startPass_frame, raise_bus]
  rfl

/-- Settles O49: the entries and the wake request as they are defined, the pin's level while nRESET is low, then each event
by the sequencer's state, with what follows in its step. -/
theorem supplyEvents : Obligations.SupplyEvents := by
  intro s
  refine ⟨rfl, rfl, rfl, enterOff_eq s, fun _ _ => rfl, rfl,
    fun h => ⟨exec_pin_inReset rfl h, exec_pin_inReset rfl h⟩, fun hruns => ?_⟩
  obtain ⟨hp, hset⟩ := hruns
  have hrise : exec .pgoodRise s = .next s.riseOfPgood.settle := exec_running_pin rfl hp
  have hfall : exec .pgoodFall s = .next s.fallOfPgood.settle := exec_running_pin rfl hp
  have hriseTimer : exec .riseTimerExpiry s = .next s.expireRise.settle := exec_running_event rfl hp
  have hfallTimer : exec .fallTimerExpiry s = .next s.expireFall.settle := exec_running_event rfl hp
  rw [hrise, hfall, hriseTimer, hfallTimer]
  refine ⟨fun h => ?_, fun h => ?_, fun h => ?_, fun hon hdischarging => ?_, fun h => ?_, fun h => ?_, fun h hgood => ?_,
    fun h hgood => ?_, fun h => ?_⟩
  · rw [riseOfPgood_of_rising h]
  · rw [riseOfPgood_of_not_rising h, settle_pgood hset]
  · rw [fallOfPgood_of_supply_up h]
  · rw [fallOfPgood_of_supply_down hon hdischarging, settle_pgood hset]
  · rw [State.expireRise, if_pos h, settle_enterFault hset (by simp [h]) (by simp [h])]
  · rw [State.expireRise, if_neg h, settle_of_settled hset]
  · rw [expireFall_of_falling h, if_pos hgood, settle_enterFault hset (by simp [h]) (by simp [h])]
  · rw [expireFall_of_falling h, if_neg (by simp [hgood])]
  · rw [State.expireFall, if_neg h, settle_of_settled hset]

end Sys2Proof.Machine

/-! PROOFS. Idle frames and discharge frames: what the Power Sequencer makes of a frame start (R126, R127), and the frame
starts at which the two counts are reached (log 9), O50. -/

namespace Sys2Proof.Machine

/-! ### The sequencer at a frame start (R126, R127) -/

theorem partIdle_iff (s : State) :
    s.partIdle = true ↔
      (∀ n, (s.slot n).state ≠ .starting ∧ (s.slot n).state ≠ .driving) ∧ ∀ e ∈ s.queue, e.state ≠ .waiting := by
  simp [State.partIdle, anyActive_eq_false_iff]

theorem nextIdleCount_of_idle {s : State} (h : s.partIdle = true) :
    s.nextIdleCount = min 255 (s.power.idleCount + 1) := by
  rw [State.nextIdleCount, if_pos h]
  split <;> omega

theorem nextIdleCount_of_busy {s : State} (h : ¬s.partIdle = true) : s.nextIdleCount = 0 :=
  if_neg h

/-- A frame start taken in ON, the count short of IDLE_FRAMES or IDLE_FRAMES 0. -/
theorem powerFrame_of_counting {s : State} (hon : s.power.state = .on)
    (h : ¬(s.config.idleFrames ≠ 0 ∧ s.config.idleFrames ≤ s.nextIdleCount)) :
    s.powerFrame = { s with power := { s.power with idleCount := s.nextIdleCount } } := by
  simp only [State.powerFrame, hon, if_neg h]

/-- A frame start taken in ON that brings the count to IDLE_FRAMES. -/
theorem powerFrame_of_reached {s : State} (hon : s.power.state = .on)
    (h : s.config.idleFrames ≠ 0 ∧ s.config.idleFrames ≤ s.nextIdleCount) :
    s.powerFrame = { s with power := { s.power with
      state := .discharging, idleCount := s.nextIdleCount, downPending := false, dischargeCount := 0 } } := by
  simp only [State.powerFrame, hon, if_pos h]
  rfl

theorem powerFrame_of_discharging {s : State} (h : s.power.state = .discharging) :
    s.powerFrame = if s.config.dischargeFrames ≤ s.power.dischargeCount then s.enterFalling else s := by
  simp only [State.powerFrame, h]

theorem powerFrame_of_supply_down {s : State} (hon : s.power.state ≠ .on) (hdischarging : s.power.state ≠ .discharging) :
    s.powerFrame = s := by
  cases hp : s.power.state with
  | on => exact absurd hp hon
  | discharging => exact absurd hp hdischarging
  | off | rising | falling | fault => simp only [State.powerFrame, hp]

/-! ### What the sequencer reads at a frame start -/

/-- The second state agrees with the first in all that the sequencer's part of a frame start depends on. -/
structure State.sameFrame (s t : State) : Prop where
  power : t.power = s.power
  slots : t.slots = s.slots
  queue : t.queue = s.queue
  config : t.config = s.config
  counter : t.frame.counter = s.frame.counter

/-- The idle count that the sequencer comes to is the one at which the discharge begins (R126). -/
def State.idleReached (s : State) : Prop :=
  s.power.state = .on ∧ s.partIdle = true ∧ s.config.idleFrames ≠ 0 ∧ s.config.idleFrames ≤ s.nextIdleCount

/-- The state in which the sequencer takes a frame start that has been counted (R111, log 10). -/
def State.beforeSequencer (s : State) : FrameOrder → State
  | .regionFirst => s.regionFrame
  | .sequencerFirst => s

theorem idleReached_of_sameFrame {s t : State} (h : s.sameFrame t) (hs : s.idleReached) : t.idleReached := by
  have hidle : t.partIdle = s.partIdle := by rw [State.partIdle, State.partIdle, anyActive_of_slots h.slots, h.queue]
  have hcount : t.nextIdleCount = s.nextIdleCount := by rw [State.nextIdleCount, State.nextIdleCount, hidle, h.power]
  rwa [State.idleReached, h.power, h.config, hidle, hcount]

theorem sameFrame_dischargeIfDue {s t : State} (h : s.sameFrame t) : s.dischargeIfDue.sameFrame t.dischargeIfDue := by
  have hpower : t.dischargeIfDue.power = s.dischargeIfDue.power := by
    simp only [State.dischargeIfDue, State.enterDischarging, h.power, anyActive_of_slots h.slots]
    split
    · rfl
    · exact h.power
  constructor <;> simp [hpower, h.slots, h.queue, h.config, h.counter]

theorem sameFrame_regionFrame {s t : State} (h : s.sameFrame t) : s.regionFrame.sameFrame t.regionFrame := by
  by_cases hon : s.power.state = .on
  · rw [regionFrame_of_on hon, regionFrame_of_on (h.power ▸ hon)]
    refine sameFrame_dischargeIfDue ⟨h.power, ?_, h.queue, h.config, h.counter⟩
    simp only [State.advanced, h.slots, h.counter]
  · rw [regionFrame_of_not_on hon, regionFrame_of_not_on (h.power ▸ hon)]
    exact ⟨h.power, h.slots, h.queue, h.config, h.counter⟩

theorem sameFrame_beforeSequencer {s t : State} (h : s.sameFrame t) (o : FrameOrder) :
    (s.beforeSequencer o).sameFrame (t.beforeSequencer o) := by
  cases o with
  | regionFirst => exact sameFrame_regionFrame h
  | sequencerFirst => exact h

/-- The frame counter one higher: what `State.idleReaches` asks about (R110). -/
def State.counterRaised (s : State) : State := { s with frame := { s.frame with counter := s.frame.counter + 1 } }

/-- IDLE_COUNT_REACHED comes about where the sequencer, at the next frame start, comes to the count (log 9). -/
theorem idleReaches_iff (s : State) (o : FrameOrder) :
    s.idleReaches o = true ↔ (s.counterRaised.beforeSequencer o).idleReached := by
  have hreached (u : State) : (u.power.state == .on && u.partIdle && u.config.idleFrames != 0
      && decide (u.config.idleFrames ≤ u.nextIdleCount)) = true ↔ u.idleReached := by
    simp [State.idleReached, and_assoc]
  cases o with
  | regionFirst => exact hreached s.counterRaised.regionFrame
  | sequencerFirst => exact hreached s

/-- Where no slot is STARTING or DRIVING, the Region Engine changes no slot at a frame start (R98). -/
theorem slots_advanced_of_inactive {s : State} (h : s.anyActive = false) : s.advanced.slots = s.slots := by
  refine Vector.ext fun i hi => ?_
  obtain ⟨hstarting, hdriving⟩ := (anyActive_eq_false_iff s).mp h ⟨i, hi⟩
  have hslot := slot_advanced s ⟨i, hi⟩
  unfold Slot.advance at hslot
  split at hslot
  · exact absurd ‹_› hstarting
  · exact absurd ‹_› hdriving
  all_goals exact hslot

/-- A part with no slot STARTING or DRIVING and no discharge due comes to the sequencer as it was, in either order. -/
theorem sameFrame_beforeSequencer_of_inactive {s : State} (hdue : s.noneDue) (h : s.anyActive = false)
    (o : FrameOrder) : s.sameFrame (s.beforeSequencer o) := by
  cases o with
  | sequencerFirst => exact ⟨rfl, rfl, rfl, rfl, rfl⟩
  | regionFirst =>
    by_cases hon : s.power.state = .on
    · have hslots := slots_advanced_of_inactive h
      have hnone : State.noneDue { s.advanced with plan := s.advanced.makePlan } :=
        fun ⟨hstate, hdown, _⟩ => hdue ⟨hstate, hdown, h⟩
      rw [State.beforeSequencer, regionFrame_of_on hon, dischargeIfDue_of_not_due hnone]
      exact ⟨rfl, hslots, rfl, rfl, rfl⟩
    · rw [State.beforeSequencer, regionFrame_of_not_on hon]
      exact ⟨rfl, rfl, rfl, rfl, rfl⟩

/-! ### The frame starts at which the counts are reached (log 9) -/

/-- The frame start counted and taken by the Temperature Unit: what the blocks after it see (R110, R111). -/
def State.frameCounted (s : State) : State :=
  State.temperatureFrame { s with frame := ⟨some s.config.frameTime, false, s.frame.counter + 1⟩ }

theorem sameFrame_frameCounted {s t : State} (h : s.sameFrame t) : s.counterRaised.sameFrame t.frameCounted := by
  constructor <;> simp [State.frameCounted, State.counterRaised, h.power, h.slots, h.queue, h.config, h.counter]

theorem deliverFrame_regionFirst (s : State) :
    s.deliverFrame .regionFirst = s.frameCounted.regionFrame.powerFrame.scanFrame := rfl

theorem deliverFrame_sequencerFirst (s : State) :
    s.deliverFrame .sequencerFirst = s.frameCounted.powerFrame.regionFrame.scanFrame := rfl

/-- FRAME_START delivers a frame start with no scan in progress, FRAME_LATE raised or not (R110, R117). -/
theorem frameStart_eq_deliverFrame (s : State) (o : FrameOrder) :
    ∃ e, s.frameStart o = State.deliverFrame { s with scan := none, events := e } o := by
  unfold State.frameStart
  dsimp only
  split
  · exact ⟨_, rfl⟩
  · exact ⟨_, rfl⟩

/-- Outside ON, and with any scan in the state it began in, a pass alone is left to the end of the step. -/
theorem settle_of_home {s : State} (hon : s.power.state ≠ .on) (hhome : s.scanHome) : s.settle = s.endPassIfDone := by
  rw [State.settle, dischargeIfDue_of_not_on hon]
  cases hscan : s.scan with
  | none => rw [stopScanIfLeft_of_none hscan]
  | some sc => rw [stopScanIfLeft_of_home hscan (hhome sc hscan)]

/-- The first discharge scan begins at the frame start that enters DISCHARGING (R112, R127). -/
theorem scanFrame_of_entered {s : State} (hstate : s.power.state = .discharging) (hcount : s.power.dischargeCount = 0) :
    s.scanFrame.power.state = .discharging ∧ s.scanFrame.power.dischargeCount = 1 ∧ s.scanFrame.scanHome := by
  rw [scanFrame_of_discharging hstate]
  refine ⟨hstate, by simp [hcount], fun sc hsc => ?_⟩
  cases hsc
  exact hstate.symm

theorem powerFrame_of_idleReached {s : State} (h : s.idleReached) :
    s.powerFrame.power.state = .discharging ∧ s.powerFrame.power.dischargeCount = 0 := by
  obtain ⟨hon, -, hframes⟩ := h
  rw [powerFrame_of_reached hon hframes]
  exact ⟨rfl, rfl⟩

/-- The frame start that brings the idle count to IDLE_FRAMES enters DISCHARGING and begins its first scan. -/
theorem deliverFrame_of_idleReaches {s t : State} {o : FrameOrder} (h : s.idleReaches o = true) (hsame : s.sameFrame t) :
    (t.deliverFrame o).power.state = .discharging ∧ (t.deliverFrame o).power.dischargeCount = 1 ∧
      (t.deliverFrame o).scanHome := by
  have hreached : (t.frameCounted.beforeSequencer o).idleReached :=
    idleReached_of_sameFrame (sameFrame_beforeSequencer (sameFrame_frameCounted hsame) o) ((idleReaches_iff s o).mp h)
  obtain ⟨hstate, hcount⟩ := powerFrame_of_idleReached hreached
  cases o with
  | regionFirst => exact scanFrame_of_entered hstate hcount
  | sequencerFirst =>
    have hentered : t.frameCounted.powerFrame.power.state = .discharging := hstate
    rw [deliverFrame_sequencerFirst, regionFrame_of_not_on (by simp [hentered])]
    exact scanFrame_of_entered hstate hcount

/-- The frame start that finds the discharge count at DISCHARGE_FRAMES enters FALLING, and no scan begins (R112, R127). -/
theorem deliverFrame_of_discharged {s : State} (hstate : s.power.state = .discharging)
    (hcount : s.config.dischargeFrames ≤ s.power.dischargeCount) :
    s.deliverFrame .regionFirst = State.enterFalling { s.frameCounted with plan := [] } := by
  have hpower : s.frameCounted.power = s.power := by simp [State.frameCounted]
  have hconfig : s.frameCounted.config = s.config := by simp [State.frameCounted]
  rw [deliverFrame_regionFirst, regionFrame_of_not_on (by simp [hpower, hstate]),
    powerFrame_of_discharging (by simp [hpower, hstate]), if_pos (by simpa [hpower, hconfig] using hcount),
    scanFrame_of_neither (.inr (by simp [State.enterFalling]))]

theorem settle_frameStart_of_idleReaches {s : State} {o : FrameOrder} (h : s.idleReaches o = true) :
    (s.frameStart o).settle.power.state = .discharging ∧ (s.frameStart o).settle.power.dischargeCount = 1 ∧
      (s.frameStart o).settle.frame = ⟨some s.config.frameTime, false, s.frame.counter + 1⟩ := by
  obtain ⟨e, he⟩ := frameStart_eq_deliverFrame s o
  obtain ⟨hstate, hcount, hhome⟩ := deliverFrame_of_idleReaches (t := { s with scan := none, events := e }) h
    ⟨rfl, rfl, rfl, rfl, rfl⟩
  rw [he, settle_of_home (by simp [hstate]) hhome]
  simp [hstate, hcount, frame_deliverFrame]

theorem settle_frameStart_of_discharged {s : State} (hstate : s.power.state = .discharging)
    (hcount : s.config.dischargeFrames ≤ s.power.dischargeCount) :
    (s.frameStart .regionFirst).settle.power.state = .falling ∧
      (s.frameStart .regionFirst).settle.power.fallTimer = some s.config.fallTime ∧
      (s.frameStart .regionFirst).settle.scan = none ∧
      (s.frameStart .regionFirst).settle.frame = ⟨some s.config.frameTime, false, s.frame.counter + 1⟩ := by
  obtain ⟨e, he⟩ := frameStart_eq_deliverFrame s .regionFirst
  have hfalling := deliverFrame_of_discharged (s := { s with scan := none, events := e }) hstate hcount
  have hscan : (s.frameStart .regionFirst).scan = none := by simp [he, hfalling, State.frameCounted]
  rw [settle_of_home (by rw [he, hfalling]; nofun) (by simp [State.scanHome, hscan])]
  simp [he, hfalling, State.enterFalling, State.frameCounted]

/-- Settles O50: the sequencer's part of a frame start by its state and its counts; then the two events, each the frame
start that it names, or nothing. -/
theorem countedFrames : Obligations.CountedFrames := by
  refine ⟨fun s => ?_, fun s o hruns => ?_⟩
  · intro idle count discharging
    have hidle : s.partIdle = true ↔ idle := partIdle_iff s
    refine ⟨fun hon hbusy hframes => ?_, fun hon hzero h => ?_, fun hon hzero hbusy => ?_, fun hon h hlt => ?_,
      fun hon h hframes hle => ?_, fun h hlt => ?_, fun h hle => ?_, powerFrame_of_supply_down⟩
    · have hcount := nextIdleCount_of_busy (mt hidle.mp hbusy)
      rw [powerFrame_of_counting hon (by omega), hcount]
    · rw [powerFrame_of_counting hon (by omega), nextIdleCount_of_idle (hidle.mpr h)]
    · rw [powerFrame_of_counting hon (by omega), nextIdleCount_of_busy (mt hidle.mp hbusy)]
    · have hcount := nextIdleCount_of_idle (hidle.mpr h)
      rw [powerFrame_of_counting hon (by omega), hcount]
    · have hcount := nextIdleCount_of_idle (hidle.mpr h)
      rw [powerFrame_of_reached hon ⟨hframes, hcount ▸ hle⟩, hcount]
    · rw [powerFrame_of_discharging h, if_neg (by omega)]
    · rw [powerFrame_of_discharging h, if_pos hle]
  · obtain ⟨hp, hset⟩ := hruns
    obtain ⟨hdue, -, -⟩ := (settled_iff s).mp hset
    have hidle : exec (.idleCountReached o) s = .next (s.reachIdle o).settle := exec_running_event rfl hp
    have hstart : exec (.frameStart o) s = .next (s.frameStart o).settle := exec_running_event rfl hp
    have hdischarge : exec .dischargeCountReached s = .next s.reachDischarge.settle := exec_running_event rfl hp
    rw [hidle, hstart, hdischarge]
    refine ⟨fun hon hslots hqueue hframes hle => ?_, fun h => ?_, fun h => ?_, fun h hle => ?_, fun h => ?_⟩
    · have hpart : s.partIdle = true := (partIdle_iff s).mpr ⟨hslots, hqueue⟩
      have hreached : s.idleReached := ⟨hon, hpart, hframes, nextIdleCount_of_idle hpart ▸ hle⟩
      have hsame : s.counterRaised.sameFrame (s.counterRaised.beforeSequencer o) :=
        sameFrame_beforeSequencer_of_inactive (s := s.counterRaised) hdue ((anyActive_eq_false_iff s).mpr hslots) o
      exact (idleReaches_iff s o).mpr (idleReached_of_sameFrame hsame hreached)
    · rw [State.reachIdle, if_pos h]
      exact ⟨_, rfl, rfl, settle_frameStart_of_idleReaches h⟩
    · rw [State.reachIdle, if_neg (by simp [h]), settle_of_settled hset]
    · rw [State.reachDischarge, if_pos ⟨h, hle⟩]
      exact ⟨_, rfl, settle_frameStart_of_discharged h hle⟩
    · have hnot : ¬(s.power.state = .discharging ∧ s.config.dischargeFrames ≤ s.power.dischargeCount) :=
        fun ⟨hstate, hle⟩ => h.elim (· hstate) (Nat.not_lt.mpr hle)
      rw [State.reachDischarge, if_neg hnot, settle_of_settled hset]

end Sys2Proof.Machine

/-! PROOFS. The Temperature Unit (R135 to R140): the band table and the classification of a code, SAMPLE_TEMP and the
period count, and the end of a conversion, O51. -/

namespace Sys2Proof.Machine

/-! ### The band table (R138) -/

theorem length_bounds {u : TempUnit} (h : u.bandCount.toNat ≤ 8) : u.bounds.length = u.bandCount.toNat := by
  simp [TempUnit.bounds, h]

theorem lt_eight_of_bounds {u : TempUnit} {i : Nat} (h : i < u.bounds.length) : i < 8 := by
  simp only [TempUnit.bounds, List.length_map, List.length_take, Vector.length_toList] at h
  omega

theorem getElem_bounds {u : TempUnit} {i : Nat} (h : i < u.bounds.length) :
    u.bounds[i] = (u.upper[i]'(lt_eight_of_bounds h)).toNat := by
  simp [TempUnit.bounds]

/-- The bounds of the table are those of the bands below the band count. -/
theorem mem_bounds_iff {u : TempUnit} (h : u.bandCount.toNat ≤ 8) (x : Nat) :
    x ∈ u.bounds ↔ ∃ b : Fin 8, b.val < u.bandCount.toNat ∧ (u.upper[b]).toNat = x := by
  rw [List.mem_iff_getElem, ← length_bounds h]
  exact ⟨fun ⟨i, hi, hx⟩ => ⟨⟨i, lt_eight_of_bounds hi⟩, hi, (getElem_bounds hi).symm.trans hx⟩,
    fun ⟨b, hb, hx⟩ => ⟨b.val, hb, (getElem_bounds hb).trans hx⟩⟩

theorem ascendsFrom_iff (lo : Nat) (us : List Nat) : ascendsFrom lo us = true ↔ (lo :: us).IsChain (· < ·) := by
  induction us generalizing lo with
  | nil => simp [ascendsFrom]
  | cons u us ih => simp [ascendsFrom, ih]

/-- Bounds that ascend from above LOW_LIMIT, said band by band. -/
theorem ascendsFrom_bounds_iff {u : TempUnit} (hone : 1 ≤ u.bandCount.toNat) (hmax : u.bandCount.toNat ≤ 8) :
    ascendsFrom u.lowLimit.toNat u.bounds = true ↔
      (∀ b c : Fin 8, b.val + 1 = c.val → c.val < u.bandCount.toNat → (u.upper[b]).toNat < (u.upper[c]).toNat) ∧
        u.lowLimit.toNat < (u.upper[0]).toNat := by
  have hlen := length_bounds hmax
  rw [ascendsFrom_iff, List.isChain_iff_getElem]
  refine ⟨fun h => ⟨fun b c hbc hc => ?_, ?_⟩, fun ⟨hstep, hlow⟩ i hi => ?_⟩
  · calc (u.upper[b]).toNat
      _ = u.bounds[b.val] := (getElem_bounds (by omega)).symm
      _ < u.bounds[b.val + 1] := h (b.val + 1) (by simp; omega)
      _ = (u.upper[c]).toNat := by simp [getElem_bounds, hbc]
  · simpa [getElem_bounds] using h 0 (by simp; omega)
  · have hlt : i < u.bounds.length := by simpa using hi
    cases i with
    | zero => simpa [getElem_bounds] using hlow
    | succ i =>
      have hpair := hstep ⟨i, by omega⟩ ⟨i + 1, by omega⟩ rfl (hlen ▸ hlt)
      simpa [getElem_bounds] using hpair

/-- The well-formedness of the table, said band by band (R138). -/
theorem tableGood_iff (u : TempUnit) :
    u.tableGood = true ↔
      1 ≤ u.bandCount.toNat ∧ u.bandCount.toNat ≤ 8 ∧
        (∀ b : Fin 8, b.val < u.bandCount.toNat → 1 ≤ (u.upper[b]).toNat ∧ (u.upper[b]).toNat ≤ 1024) ∧
        (∀ b c : Fin 8, b.val + 1 = c.val → c.val < u.bandCount.toNat → (u.upper[b]).toNat < (u.upper[c]).toNat) ∧
        u.lowLimit.toNat < (u.upper[0]).toNat := by
  simp only [TempUnit.tableGood, Bool.and_eq_true, decide_eq_true_iff, and_assoc]
  refine and_congr_right fun hone => and_congr_right fun hmax => and_congr ?_ (ascendsFrom_bounds_iff hone hmax)
  simp [mem_bounds_iff hmax]

/-- Bounds that ascend from each band to the next ascend over any two bands. -/
theorem upper_lt_of_lt {u : TempUnit} (h : u.tableGood = true) {b c : Fin 8} (hbc : b < c)
    (hc : c.val < u.bandCount.toNat) : (u.upper[b]).toNat < (u.upper[c]).toNat := by
  obtain ⟨hone, hmax, -, hsteps⟩ := (tableGood_iff u).mp h
  have hlen := length_bounds hmax
  have hchain := (ascendsFrom_iff _ _).mp ((ascendsFrom_bounds_iff hone hmax).mpr hsteps)
  have hpairs := (List.pairwise_cons.mp hchain.pairwise).2
  calc (u.upper[b]).toNat
    _ = u.bounds[b.val] := (getElem_bounds (by omega)).symm
    _ < u.bounds[c.val] := List.pairwise_iff_getElem.mp hpairs b.val c.val (by omega) (by omega) hbc
    _ = (u.upper[c]).toNat := getElem_bounds _

/-- In a well-formed table the top band has the highest bound. -/
theorem upper_le_of_top {u : TempUnit} (h : u.tableGood = true) {b top : Fin 8}
    (htop : top.val + 1 = u.bandCount.toNat) (hb : b.val < u.bandCount.toNat) :
    (u.upper[b]).toNat ≤ (u.upper[top]).toNat := by
  rcases eq_or_lt_of_le (show b ≤ top by omega) with rfl | hlt
  · exact le_rfl
  · exact (upper_lt_of_lt h hlt (by omega)).le

/-! ### The classification of a code (R138) -/

theorem bandOf_eq_some {u : TempUnit} {code : Nat} {b : Fin 8} (hb : b.val < u.bandCount.toNat)
    (hcode : code < (u.upper[b]).toNat) (hbelow : ∀ c : Fin 8, c.val < b.val → (u.upper[c]).toNat ≤ code) :
    u.bandOf code = some b := by
  have hnumbers : modeNumbers = List.finRange 8 := by decide
  rw [TempUnit.bandOf, hnumbers, ← Fin.find?_eq_find?_finRange, Fin.find?_eq_some_iff]
  exact ⟨by simpa [hb] using hcode, fun c hc => by simpa using fun _ => hbelow c hc⟩

theorem bandOf_eq_none {u : TempUnit} {code : Nat}
    (h : ∀ b : Fin 8, b.val < u.bandCount.toNat → (u.upper[b]).toNat ≤ code) : u.bandOf code = none :=
  List.find?_eq_none.mpr fun b _ => by simpa using h b

theorem classify_of_bad {u : TempUnit} (h : ¬u.tableGood = true) (code : Nat) :
    u.classify code = (.out, .bandTableBad) := by
  simp [TempUnit.classify, h]

theorem classify_of_below {u : TempUnit} (h : u.tableGood = true) {code : Nat} (hlow : code < u.lowLimit.toNat) :
    u.classify code = (.out, .below) := by
  simp [TempUnit.classify, h, hlow]

/-- A code at or above the top band's bound is above every band. -/
theorem classify_of_above {u : TempUnit} (h : u.tableGood = true) {code : Nat} {top : Fin 8}
    (htop : top.val + 1 = u.bandCount.toNat) (hcode : (u.upper[top]).toNat ≤ code) :
    u.classify code = (.out, .above) := by
  have hband : u.bandOf code = none := bandOf_eq_none fun b hb => (upper_le_of_top h htop hb).trans hcode
  have hlow : ¬code < u.lowLimit.toNat := by
    obtain ⟨hone, -, -, -, hlow⟩ := (tableGood_iff u).mp h
    have hfirst : (u.upper[0]).toNat ≤ (u.upper[top]).toNat := upper_le_of_top (b := 0) h htop hone
    omega
  simp [TempUnit.classify, h, hlow, hband]

theorem classify_of_band {u : TempUnit} (h : u.tableGood = true) {code : Nat} (hlow : u.lowLimit.toNat ≤ code)
    {b : Fin 8} (hband : u.bandOf code = some b) : u.classify code = (.band b, .none) := by
  simp [TempUnit.classify, h, hband, hlow]

/-! ### SAMPLE_TEMP and the period count (R135, R136) -/

/-- SAMPLE_TEMP's step: its effect and its answer, which leave nothing for the end of the step. -/
theorem exec_sampleTemp {s : State} (h : s.takes) :
    exec .sampleTemp s = .next (s.sampleTemp.1.answered 0x0E s.sampleTemp.2) := by
  obtain ⟨-, -, -, -, -, -, hcommand, -⟩ := commanded_plain s
  rw [exec_of_takes h (by simp [route]), State.effect, hcommand]
  exact congrArg _ (settle_of_same h.1.2 (by simp) (by simp) (by simp) (by simp) (by simp))

theorem sampleTemp_of_converting {s : State} (h : s.temp.converting = true) : s.sampleTemp = (s, .busy) :=
  if_pos h

theorem sampleTemp_of_idle {s : State} (h : ¬s.temp.converting = true) :
    s.sampleTemp = ({ s with temp := { s.temp with converting := true } }, .accepted) :=
  if_neg h

/-- The frame start that brings the period count to TEMP_PERIOD starts a conversion, or finds one running. -/
theorem temperatureFrame_of_reached {s : State} (hperiod : s.config.tempPeriod ≠ 0)
    (h : s.config.tempPeriod ≤ s.temp.periodCount + 1) :
    s.temperatureFrame = { s with temp := { s.temp with periodCount := 0, converting := true } } := by
  rw [State.temperatureFrame, if_neg hperiod, if_pos h]

/-- Of the blocks that take a frame start the Temperature Unit alone changes its registers. -/
theorem temp_frameStart (s : State) (o : FrameOrder) : (s.frameStart o).temp = s.temperatureFrame.temp := by
  obtain ⟨e, he⟩ := frameStart_eq_deliverFrame s o
  have hcounted : (State.frameCounted { s with scan := none, events := e }).temp = s.temperatureFrame.temp := by
    simp only [State.frameCounted, State.temperatureFrame]
    split
    · rfl
    · split <;> rfl
  rw [he, ← hcounted]
  cases o with
  | regionFirst => simp [deliverFrame_regionFirst]
  | sequencerFirst => simp [deliverFrame_sequencerFirst]

theorem held_frameStart (s : State) (o : FrameOrder) : (s.frameStart o).frame.held = false := by
  obtain ⟨e, he⟩ := frameStart_eq_deliverFrame s o
  rw [he, frame_deliverFrame]

/-- With no frame start held the end of a step delivers none, and the Temperature Unit sees nothing of it. -/
theorem temp_settle_of_not_held {s : State} (h : s.frame.held = false) : s.settle.temp = s.temp := by
  have hheld : s.dischargeIfDue.frame.held = false := by simpa using h
  have hstop : s.dischargeIfDue.stopScanIfLeft.temp = s.temp := by
    unfold State.stopScanIfLeft
    split
    · simp
    · split
      · simp
      · simp [endScan_of_not_held hheld, State.scanStopped]
  simpa [State.settle] using hstop

/-! ### The end of a conversion (R139, R140) -/

/-- The registers as the end of a conversion leaves them before the classification is applied: the code stored, its
class and its reason (R139). -/
def TempUnit.converted (u : TempUnit) (code : BitVec 10) : TempUnit :=
  { u with
    converting := false, code := code, last := some (u.classify code.toNat).1, reason := (u.classify code.toNat).2 }

theorem endConversion_of_idle {s : State} (h : s.temp.converting = false) (code : BitVec 10) :
    s.endConversion code = s :=
  if_neg (by simp [h])

section
variable {s : State} {code : BitVec 10} (hconverting : s.temp.converting = true)
include hconverting

/-- The first classification of all, or one that confirms the candidate: the current band changes (R139, R140). -/
theorem endConversion_of_change
    (h : s.temp.current = none ∨
      (s.temp.current ≠ some (s.temp.classify code.toNat).1 ∧
        s.temp.candidate = some (s.temp.classify code.toNat).1)) :
    s.endConversion code = State.startPass { s with
      temp := { s.temp.converted code with current := some (s.temp.classify code.toNat).1, candidate := none }
      events := s.events ||| (1#10 <<< 6) } := by
  rw [State.endConversion, if_pos hconverting]
  exact if_pos h

/-- A classification equal to the current band drops the candidate (R139). -/
theorem endConversion_of_same (h : s.temp.current = some (s.temp.classify code.toNat).1) :
    s.endConversion code = { s with temp := { s.temp.converted code with candidate := none } } := by
  rw [State.endConversion, if_pos hconverting]
  exact (if_neg (by simp [h])).trans (if_pos h)

/-- A classification that is neither the current band nor the candidate becomes the candidate (R139). -/
theorem endConversion_of_new (hnone : s.temp.current ≠ none)
    (hcurrent : s.temp.current ≠ some (s.temp.classify code.toNat).1)
    (hcandidate : s.temp.candidate ≠ some (s.temp.classify code.toNat).1) :
    s.endConversion code = { s with
      temp := { s.temp.converted code with candidate := some (s.temp.classify code.toNat).1 } } := by
  rw [State.endConversion, if_pos hconverting]
  exact (if_neg (by simp [hnone, hcandidate])).trans (if_neg hcurrent)

end

/-- Settles O51: SAMPLE_TEMP by the unit's state; the period count; the classification by the band table; and the end of a
conversion by the cases of R139. -/
theorem conversions : Obligations.Conversions := by
  refine ⟨fun s h => ?_, fun s => rfl, fun s o hruns => ?_, fun u code => ?_, fun s code hruns => ?_⟩
  · rw [exec_sampleTemp h]
    split
    case isTrue hc => rw [sampleTemp_of_converting hc]
    case isFalse hc => rw [sampleTemp_of_idle hc]; rfl
  · obtain ⟨hp, hset⟩ := hruns
    have hrequest : exec (.periodicConversionRequest o) s = .next (s.reachPeriod o).settle := exec_running_event rfl hp
    have hstart : exec (.frameStart o) s = .next (s.frameStart o).settle := exec_running_event rfl hp
    rw [hrequest, hstart]
    refine ⟨fun hperiod h => ?_, fun h => ?_⟩
    · rw [State.reachPeriod, if_pos ⟨hperiod, h⟩]
      refine ⟨_, rfl, rfl, ?_⟩
      rw [temp_settle_of_not_held (held_frameStart s o), temp_frameStart, temperatureFrame_of_reached hperiod h]
    · have hnot : ¬(s.config.tempPeriod ≠ 0 ∧ s.config.tempPeriod ≤ s.temp.periodCount + 1) := by omega
      rw [State.reachPeriod, if_neg hnot, settle_of_settled hset]
  · intro n good
    have hgood : u.tableGood = true ↔ good := tableGood_iff u
    rw [← hgood]
    exact ⟨fun h => classify_of_bad h code, fun h => classify_of_below h, fun h _ => classify_of_above h,
      fun h hlow _ hb hcode hbelow => classify_of_band h hlow (bandOf_eq_some hb hcode hbelow)⟩
  · obtain ⟨hp, hset⟩ := hruns
    have hend : exec (.conversionEnd code) s = .next (s.endConversion code).settle := exec_running_event rfl hp
    intro c ended
    rw [hend]
    refine ⟨fun h => ?_, fun hconv => ⟨fun h => ?_, fun h => ?_, fun hnone hcurrent hcandidate => ?_⟩⟩
    · rw [endConversion_of_idle h, settle_of_settled hset]
    · rw [endConversion_of_change hconv h]
      rfl
    · rw [endConversion_of_same hconv h]
      exact congrArg _ (settle_of_same hset rfl rfl rfl rfl rfl)
    · rw [endConversion_of_new hconv hnone hcurrent hcandidate]
      exact congrArg _ (settle_of_same hset rfl rfl rfl rfl rfl)

end Sys2Proof.Machine

/-! PROOFS. The offer of a record and the taking of a post (R145, R146): the record that joins, the removal of an entry and
the release of a slot as plain updates of the state, and O34. -/

namespace Sys2Proof.Machine

/-! ### The record and the removal as plain updates -/

/-- Steps 1 to 3 of the taking of a post (R146), as one update. -/
theorem addRecord_eq (s : State) (r : Record) (notify : Bool) :
    s.addRecord r notify =
      { s with
        completions := s.completions ++ [r]
        events := if r.outcome = .done ∧ notify = false then s.events else s.events ||| 1
        queue := s.queue.map (Entry.released r.tag) } := by
  have hif : (decide (r.outcome = .done) && !notify) = true ↔ r.outcome = .done ∧ notify = false := by simp
  unfold State.addRecord
  simp only [hif]
  split <;> rfl

/-- The removal of an entry (R71, R72), as one update. -/
theorem removeEntry_eq (s : State) {i : Nat} (hi : i < s.queue.length) :
    s.removeEntry i =
      { s with
        queue := s.queue.eraseIdx i
        events := if s.queue.length = 8 then s.events ||| 2 else s.events
        load := if s.queue.length = 8 ∧ s.load.state = .autoPending then
            { s.load with retriesOwed := s.load.retriesOwed + 1 }
          else s.load } := by
  obtain ⟨hevents, hload⟩ := removeEntry_flags s hi
  rw [← hevents, ← hload, ← queue_removeEntry]
  unfold State.removeEntry
  dsimp only
  split
  · split <;> rfl
  · rfl

theorem awaited_iff (s : State) (t : Tag) : s.awaited t = true ↔ ∃ e ∈ s.queue, e.afterTag = t := by
  simp [State.awaited]

/-! ### The post of a slot (R106) -/

theorem Slot.record_outcome_eq_done_iff (sl : Slot) (o : SlotOutcome) (stamp : Word) :
    (sl.record o stamp).outcome = .done ↔ o = .done := by
  cases o <;> simp [Slot.record]

/-- The record of a slot has joined, its tiles are released and the slot is FREE; the pass is still to start (R106). -/
def State.slotPosted (s : State) (n : Fin 16) (o : SlotOutcome) : State :=
  ((s.addRecord ((s.slot n).record o s.frame.counter) (s.slot n).notify).releaseTiles n).setSlot n Slot.cleared

theorem takePost_slot {s : State} {n : Fin 16} {o : SlotOutcome} (h : (s.slot n).outcome = some o) :
    s.takePost (.slot n) = (s.slotPosted n o).startPass := by
  simp only [State.takePost, State.takeSlotPost, h, State.slotPosted]

theorem slotPosted_eq (s : State) (n : Fin 16) (o : SlotOutcome) :
    s.slotPosted n o =
      { s with
        completions := s.completions ++ [(s.slot n).record o s.frame.counter]
        events := if o = .done ∧ (s.slot n).notify = false then s.events else s.events ||| 1
        queue := s.queue.map (Entry.released (s.slot n).tag)
        slots := s.slots.set n Slot.cleared
        tiles := (s.releaseTiles n).tiles } := by
  simp only [State.slotPosted, addRecord_eq, Slot.record_outcome_eq_done_iff]
  rfl

/-! ### The post of an entry (R71) -/

/-- The record of the entry at a position has joined and the entry is gone; the pass that the clearing of an after-tag
starts is still to start (R64, R71). -/
def State.entryPosted (s : State) (i : Nat) (e : Entry) : State :=
  (s.addRecord (e.record s.frame.counter) false).removeEntry i

/-- The poster's tag finds the first entry that bears it. -/
theorem takePost_entry {s : State} {i : Nat} {e : Entry} (he : s.queue[i]? = some e)
    (hfirst : ∀ j e', j < i → s.queue[j]? = some e' → e'.tag ≠ e.tag) :
    s.takePost (.entry e.tag) =
      if ∃ e' ∈ s.queue, e'.afterTag = e.tag then (s.entryPosted i e).startPass else s.entryPosted i e := by
  simp only [State.takePost, State.takeEntryPost, entryIndex_eq_some he rfl hfirst, he, awaited_iff, State.entryPosted]

theorem entryPosted_eq {s : State} {i : Nat} {e : Entry} (he : s.queue[i]? = some e) :
    s.entryPosted i e =
      { s with
        completions := s.completions ++ [e.record s.frame.counter]
        queue := (s.queue.map (Entry.released e.tag)).eraseIdx i
        events := if s.queue.length = 8 then s.events ||| 1 ||| 2 else s.events ||| 1
        load := if s.queue.length = 8 ∧ s.load.state = .autoPending then
            { s.load with retriesOwed := s.load.retriesOwed + 1 }
          else s.load } := by
  obtain ⟨hlt, -⟩ := List.getElem?_eq_some_iff.mp he
  have hdone := e.record_outcome_ne_done s.frame.counter
  rw [State.entryPosted, removeEntry_eq _ (by simpa using hlt), addRecord_eq]
  simp only [List.length_map, hdone, false_and, if_false]
  rfl

/-- The record of an entry (Table 4.4): REJECTED with the reason of a REJECTING entry, else CANCELLED. -/
theorem Entry.record_eq (e : Entry) (stamp : Word) :
    e.record stamp = {
      tag := e.tag, outcome := (match e.state with | .rejecting r => .rejected r | _ => .cancelled),
      promoted := false, widened := false, started := false, mode := e.mode, band := none, framesDriven := 0,
      startStamp := none, endStamp := stamp } := by
  unfold Entry.record
  cases e.state <;> rfl

/-- Settles O34: the offer as it is defined, then the post of a slot and the post of an entry, each the update that its
record, its removal and its flags make, with the pass it starts. -/
theorem postsAreTaken : Obligations.PostsAreTaken := by
  refine ⟨fun _ _ => rfl, fun s n o ho => ⟨s.slotPosted n o, takePost_slot ho, ?_⟩,
    fun s i e he hfirst _ => ⟨s.entryPosted i e, takePost_entry he hfirst, ?_⟩⟩
  · have hslot (m : Fin 16) : (s.slotPosted n o).slot m = if m = n then Slot.cleared else s.slot m := by
      rw [← slot_setSlot s n m Slot.cleared, slotPosted_eq]
      rfl
    refine ⟨by rw [slotPosted_eq]; rfl, by rw [hslot, if_pos rfl], fun m hm => by rw [hslot, if_neg hm],
      fun k => ?_, by rw [slotPosted_eq], by rw [slotPosted_eq], by rw [slotPosted_eq]⟩
    rw [slotPosted_eq]
    exact tiles_releaseTiles s n k
  · rw [entryPosted_eq he]
    exact ⟨congrArg (fun r => s.completions ++ [r]) (e.record_eq s.frame.counter), rfl, rfl, rfl, rfl⟩

end Sys2Proof.Machine

/-! PROOFS. The records of the Completion Queue over every command and event (R144, R148), POP, and O33. -/

namespace Sys2Proof.Machine

/-! ### Records join at the tail (R145, R146)

The records of a state stand in another where they are a prefix of its records: none has left, none has changed. -/

/-- What leaves the records alone. -/
theorem prefix_of_same {s t : State} (h : t.completions = s.completions) : s.completions <+: t.completions := by
  rw [h]

theorem prefix_addRecord (s : State) (r : Record) (notify : Bool) :
    s.completions <+: (s.addRecord r notify).completions := by
  rw [addRecord_eq]
  exact List.prefix_append _ _

theorem prefix_takePost (s : State) (p : Poster) : s.completions <+: (s.takePost p).completions := by
  cases p with
  | slot n =>
    simp only [State.takePost, State.takeSlotPost]
    split
    · exact prefix_of_same rfl
    · simpa using prefix_addRecord s _ _
  | entry t =>
    simp only [State.takePost, State.takeEntryPost]
    split
    · exact prefix_of_same rfl
    · split
      · exact prefix_of_same rfl
      · split <;> simpa using prefix_addRecord s _ _

theorem prefix_offer (s : State) (p : Poster) : s.completions <+: (s.offer p).completions := by
  unfold State.offer
  split
  · exact prefix_takePost s p
  · exact prefix_of_same rfl

theorem prefix_offerEntries (s : State) (ts : List Tag) : s.completions <+: (s.offerEntries ts).completions := by
  induction ts generalizing s with
  | nil => exact prefix_of_same rfl
  | cons t ts ih => exact (prefix_offer s _).trans (ih _)

theorem prefix_cutSlot (s : State) (n : Fin 16) (o : SlotOutcome) : s.completions <+: (s.cutSlot n o).completions := by
  have hend (u : State) (h : u.completions = s.completions) : s.completions <+: (u.endSlot n o).completions :=
    (prefix_of_same h).trans (prefix_offer (u.setSlot n { u.slot n with state := .ending, outcome := some o }) _)
  unfold State.cutSlot
  split
  case h_1 | h_2 => exact hend _ rfl
  all_goals exact prefix_of_same rfl

theorem prefix_cutSlots (s : State) (o : SlotOutcome) (ns : List (Fin 16)) :
    s.completions <+: (s.cutSlots o ns).completions := by
  induction ns generalizing s with
  | nil => exact prefix_of_same rfl
  | cons n ns ih => exact (prefix_cutSlot s n o).trans (ih _)

/-! ### The commands and events that post (R67, R70, R86, R101, R104) -/

theorem prefix_cancelTag (s : State) (t : Tag) : s.completions <+: (s.cancelTag t).1.completions := by
  unfold State.cancelTag
  split
  · exact prefix_of_same rfl
  · split
    · rename_i i _
      split
      · split
        · exact (prefix_of_same (by simp)).trans (prefix_offer (s.setEntryState i .withdrawn).startPass (.entry t))
        · exact prefix_of_same rfl
      · exact prefix_of_same rfl
    · split
      · split
        · exact prefix_cutSlot s _ _
        · exact prefix_of_same rfl
      · exact prefix_of_same rfl

theorem prefix_cancelAll (s : State) : s.completions <+: s.cancelAll.1.completions := by
  have hcut : s.completions <+:
      ((s.withdrawAll.offerEntries s.waitingTags).cutSlots .cancelled slotNumbers).completions :=
    (prefix_offerEntries s.withdrawAll _).trans (prefix_cutSlots _ _ _)
  unfold State.cancelAll
  dsimp only
  split
  · exact hcut
  · simpa using hcut

theorem prefix_examine (s : State) (i : Nat) (e : Entry) : s.completions <+: (s.examine i e).completions := by
  rcases examine_cases s i e with hx | hx | ⟨b, n, -, -, hx⟩
  · exact prefix_of_same (by rw [hx]; rfl)
  · exact prefix_of_same (by simp [hx, State.reached])
  · rw [hx]
    rcases decideEntry_cases (s.reached i) i e b n with ⟨r, hd⟩ | ⟨sl, -, hd⟩
    · rw [hd]
      exact prefix_offer ((s.reached i).setEntryState i (.rejecting r)) _
    · rw [hd]
      exact prefix_of_same (by simp [State.reached])

theorem prefix_examineNext (s : State) : s.completions <+: s.examineNext.completions := by
  rcases examineNext_cases s with hx | ⟨i, e, hx⟩
  · exact prefix_of_same (by rw [hx])
  · rw [hx]
    exact prefix_examine s i e

theorem prefix_fallOfPgood (s : State) : s.completions <+: s.fallOfPgood.completions := by
  have hcut (b : Bool) : s.completions <+:
      ((State.enterFault { s with pgood := false } .supplyLost b).cutSlots .fault slotNumbers).completions :=
    prefix_cutSlots (State.enterFault { s with pgood := false } .supplyLost b) _ _
  unfold State.fallOfPgood
  dsimp only
  split
  case h_1 | h_2 => exact hcut _
  all_goals exact prefix_of_same rfl

theorem prefix_endCommit (s : State) : s.completions <+: s.endCommit.completions := by
  unfold State.endCommit
  split
  · exact prefix_of_same rfl
  · split
    · exact (prefix_of_same (by simp)).trans (prefix_offer _ _)
    · exact prefix_of_same rfl

/-! ### Every command and event -/

/-- The commands and events that take records away: POP and SOFT_RESET, each also as the word written to COMMAND, and the
resets of the part as a whole. -/
def takesRecords : Instr → Bool
  | .pop | .softReset | .pinReset | .vddApplied => true
  | .registerWrite .command w => w == 0x04 || w == 0x0F
  | _ => false

/-- A command that a running part takes, and that takes no record away, hands COMMAND another code. -/
theorem code_ne_of_keepsRecords {c : Instr} (hc : takesRecords c = false) {w : Word}
    (hw : registerWriteOf c = some (.command, w)) : w ≠ 0x04 ∧ w ≠ 0x0F := by
  cases c with
  | registerWrite r w' =>
    cases hw
    simpa [takesRecords] using hc
  | panelGeometryWrite a w' => cases a <;> cases hw
  | pop | softReset => cases hc
  | _ => cases hw <;> decide

/-- Of the codes of COMMAND, POP's and SOFT_RESET's alone take records away. -/
theorem prefix_commandEffect (s : State) {code : Word} (hpop : code ≠ 0x04) (hreset : code ≠ 0x0F) :
    s.completions <+: (s.commandEffect code).1.completions := by
  unfold State.commandEffect
  split
  case h_2 => exact prefix_cancelTag s _
  case h_3 => exact prefix_cancelAll s
  case h_4 h => exact absurd (BitVec.eq_of_toNat_eq h) hpop
  case h_15 h => exact absurd (BitVec.eq_of_toNat_eq h) hreset
  all_goals exact prefix_of_same (by simp)

theorem prefix_writeRegister (s : State) {r : Reg} {w : Word} (h : r = .command → w ≠ 0x04 ∧ w ≠ 0x0F) :
    s.completions <+: (s.writeRegister r w).completions := by
  cases r with
  | command =>
    obtain ⟨hpop, hreset⟩ := h rfl
    exact prefix_commandEffect { s with bus := { s.bus with command := w } } hpop hreset
  | _ => exact prefix_of_same (by simp [State.writeRegister])

theorem prefix_effect {c : Instr} (hc : route c ≠ none) (hkeeps : takesRecords c = false) (s : State) :
    s.completions <+: (s.effect c).completions := by
  cases hw : registerWriteOf c with
  | some rw =>
    obtain ⟨r, w⟩ := rw
    rw [effect_of_registerWriteOf hw s]
    refine prefix_writeRegister s fun hr => ?_
    subst hr
    exact code_ne_of_keepsRecords hkeeps hw
  | none =>
    cases c with
    | pgoodFall => exact prefix_fallOfPgood s
    | commitEnd => exact prefix_endCommit s
    | entryExamination => exact prefix_examineNext s
    | unknownCommand code => exact prefix_of_same rfl
    | vddApplied | pinReset | resetRelease | busAccessInReset => simp [route] at hc
    | _ => exact prefix_of_same (by simp_all [State.effect, registerWriteOf])

/-- The end of a reset, and an access made while nRESET is low (R162, R163). -/
theorem prefix_effect_of_no_route {c : Instr} (hc : route c = none) (hkeeps : takesRecords c = false) {s : State}
    (hp : s.phase ≠ .undefined) : s.completions <+: (s.effect c).completions := by
  cases c with
  | vddApplied | pinReset => cases hkeeps
  | resetRelease =>
    simp only [State.effect, State.releaseReset]
    split
    · exact absurd ‹_› hp
    all_goals exact prefix_of_same rfl
  | busAccessInReset a =>
    simp only [State.effect, State.accessInReset]
    split
    · exact absurd ‹_› hp
    all_goals exact prefix_of_same rfl
  | _ => simp [route] at hc

/-- Where the blocks are defined, every other command and event leaves the records in place. -/
theorem prefix_exec {c : Instr} (hkeeps : takesRecords c = false) {s t : State} (hp : s.phase ≠ .undefined)
    (hx : exec c s = .next t) : s.completions <+: t.completions := by
  rcases exec_cases c s with
    ⟨hc, ht⟩ | ⟨-, hc, ht⟩ | ht | ht | ⟨-, b, ht⟩ | ⟨hu, -⟩ | ⟨hu, -⟩
  · cases ht.symm.trans hx
    exact prefix_effect_of_no_route hc hkeeps hp
  · cases ht.symm.trans hx
    simpa using prefix_effect hc hkeeps s
  · cases ht.symm.trans hx
    exact prefix_of_same rfl
  · cases ht.symm.trans hx
    exact prefix_of_same rfl
  · cases ht.symm.trans hx
    exact prefix_of_same rfl
  · exact absurd hu hp
  · exact absurd hu hp

/-! ### POP (R148) -/

/-- POP's step: its effect, its answer, and what follows. -/
theorem exec_pop {s : State} (h : s.takes) :
    exec .pop s = .next (s.popRecord.1.answered 0x04 s.popRecord.2).settle := by
  rw [exec_of_takes h (by simp [route]), State.effect, commanded_pop]

theorem popRecord_of_empty {s : State} (h : s.completions = []) : s.popRecord = (s, .empty) := by
  simp only [State.popRecord, h]

theorem popRecord_of_no_poster {s : State} {r : Record} {rest : List Record} (h : s.completions = r :: rest)
    (hp : s.posters = []) : s.popRecord = ({ s with completions := rest }, .accepted) := by
  simp only [State.popRecord, h, hp]

/-- The place that the head record frees is taken by the oldest waiting poster's post. -/
theorem popRecord_of_poster {s : State} {r : Record} {rest : List Record} (h : s.completions = r :: rest)
    {p : Poster} {ps : List Poster} (hp : s.posters = p :: ps) :
    s.popRecord = (State.takePost { s with completions := rest, posters := ps } p, .accepted) := by
  simp only [State.popRecord, h, hp]

/-- Settles O33: the records stand over every command and event that takes none away; then POP, by the records and the
waiting posters that it finds. -/
theorem popAnswers : Obligations.PopAnswers := by
  refine ⟨fun c s t hp hpop hwrite hsoft hwriteReset hpin hvdd hx => ?_,
    fun s h => ⟨fun hnone => ?_, fun r rest hsome => ⟨fun hp => ?_, fun p ps hp => ?_⟩⟩⟩
  · have hkeeps : takesRecords c = false := by
      unfold takesRecords
      split <;> simp_all
    obtain ⟨more, hmore⟩ := prefix_exec hkeeps hp hx
    exact ⟨more, hmore.symm⟩
  · rw [exec_pop h, popRecord_of_empty hnone, settle_answered h.1.2]
  · rw [exec_pop h, popRecord_of_no_poster hsome hp]
    exact congrArg _ (settle_of_keeps h.1.2 ⟨rfl, rfl, rfl, rfl, rfl⟩)
  · rw [exec_pop h, popRecord_of_poster hsome hp]

end Sys2Proof.Machine

/-! PROOFS. The event flags, their mask and the interrupt line (R149, R150), and O10. -/

namespace Sys2Proof.Machine

theorem getLsbD_clearFlags (s : State) (w : Word) (i : Nat) :
    (s.clearFlags w).events.getLsbD i = (s.events.getLsbD i && !w.getLsbD i) := by
  by_cases hi : i < 10
  · simp [State.clearFlags, fieldBits, hi]
  · simp [BitVec.getLsbD_of_ge _ i (Nat.not_lt.mp hi)]

theorem getLsbD_writeMask (s : State) (w : Word) (i : Nat) :
    (s.writeMask w).eventMask.getLsbD i = (decide (i < 10) && w.getLsbD i) := by
  simp [State.writeMask, fieldBits]

/-- nINT is high where no flag is both set and enabled (R150). -/
theorem nINT_iff (s : State) :
    s.nINT = true ↔ ∀ i, ¬(s.events.getLsbD i = true ∧ s.eventMask.getLsbD i = true) := by
  simp only [← Bool.and_eq_true, ← BitVec.getLsbD_and, Bool.not_eq_true, State.nINT, beq_iff_eq]
  constructor
  · intro h i
    rw [h, BitVec.getLsbD_zero]
  · intro h
    exact BitVec.eq_of_getLsbD_eq fun i _ => by rw [h, BitVec.getLsbD_zero]

/-- Settles O10: each write as its update of one field, which the end of the step does not read, bit by bit; then the
interrupt line. -/
theorem eventFlagsAndInterrupt : Obligations.EventFlagsAndInterrupt := by
  refine ⟨fun s w h => ⟨(s.clearFlags w).events, ?_, getLsbD_clearFlags s w⟩,
    fun s w h => ⟨(s.writeMask w).eventMask, ?_, getLsbD_writeMask s w⟩, fun s => ?_⟩
  · exact exec_of_keeps h (by simp [route]) rfl ⟨rfl, rfl, rfl, rfl, rfl⟩
  · exact exec_of_keeps h (by simp [route]) rfl ⟨rfl, rfl, rfl, rfl, rfl⟩
  · rw [← Bool.not_eq_true, nINT_iff, not_forall_not]

end Sys2Proof.Machine

/-! PROOFS. Words as numbers: bit fields, clamps, and words packed from their fields (R153); the argument words of the
commands (Table 11.4), and O5. -/

namespace Sys2Proof.Machine

/-! ### Bit fields and clamps -/

theorem bitOf_eq_testBit (w : Word) (i : Nat) : bitOf w i = w.toNat.testBit i := (BitVec.testBit_toNat w).symm

theorem field_low_byte (w : Word) : field w 0 8 = w.toNat % 256 := by simp [field]

theorem field_high_byte (w : Word) : field w 8 8 = w.toNat / 256 := by
  have hlt := w.isLt
  simp only [field]
  omega

theorem clamp_eq_max_min {lo hi : Nat} (h : lo ≤ hi) (v : Nat) : clamp lo hi v = max lo (min hi v) := by
  unfold clamp
  split
  · omega
  · split <;> omega

/-- A value that cannot exceed the upper limit is raised to the lower one (R156). -/
theorem clamp_of_le {lo hi v : Nat} (h : lo ≤ hi) (hv : v ≤ hi) : clamp lo hi v = max lo v := by
  rw [clamp_eq_max_min h, min_eq_right hv]

theorem clampMode_eq (v : Nat) : clampMode v = ⟨min 7 v, by omega⟩ := by
  unfold clampMode
  split
  · exact Fin.ext (show v = min 7 v by omega)
  · exact Fin.ext (show 7 = min 7 v by omega)

theorem toNat_append {m n : Nat} (x : BitVec m) (y : BitVec n) : (x ++ y).toNat = x.toNat * 2 ^ n + y.toNat := by
  rw [BitVec.toNat_append, ← Nat.shiftLeft_add_eq_or_of_lt y.isLt, Nat.shiftLeft_eq]

/-! ### Words packed from their fields (R153) -/

/-- The number that fields, each given as (lowest bit, value), add up to. -/
def fieldSum (fields : List (Nat × Nat)) : Nat := (fields.map fun f => f.2 * 2 ^ f.1).sum

@[simp] theorem fieldSum_nil : fieldSum [] = 0 := rfl

/-- By rewriting, since as an unfolding it would have the kernel multiply by the places of the fields in unary. -/
@[simp] theorem fieldSum_cons (i v : Nat) (fields : List (Nat × Nat)) :
    fieldSum ((i, v) :: fields) = v * 2 ^ i + fieldSum fields := by
  rw [fieldSum, List.map_cons, List.sum_cons, fieldSum]

theorem fieldSum_append (xs ys : List (Nat × Nat)) : fieldSum (xs ++ ys) = fieldSum xs + fieldSum ys := by
  simp [fieldSum]

/-- Fields that fit the word add up to its number. -/
theorem toNat_pack {fields : List (Nat × Nat)} (h : fieldSum fields < 65536) :
    (pack fields).toNat = fieldSum fields :=
  (BitVec.toNat_ofNat _ 16).trans (Nat.mod_eq_of_lt h)

theorem toNat_wordOf {n : Nat} (h : n < 65536) : (wordOf n).toNat = n :=
  (BitVec.toNat_ofNat n 16).trans (Nat.mod_eq_of_lt h)

theorem flagBit_le (b : Bool) : flagBit b ≤ 1 := by cases b <;> decide

/-! ### The argument words (R155) -/

theorem argOrientation_eq_some_iff (s : State) (o : Fin 8) :
    s.argOrientation = some o ↔ (s.arg 4).toNat / 8 % 16 = o.val := by
  have hfield : field (s.arg 4) 3 4 = (s.arg 4).toNat / 8 % 16 := rfl
  simp only [State.argOrientation, hfield, Option.dite_none_right_eq_some, Option.some.injEq, Fin.ext_iff]
  exact ⟨fun ⟨_, h⟩ => h, fun h => ⟨h ▸ o.isLt, h⟩⟩

theorem argMode_eq_some_iff (s : State) (m : Fin 8) : s.argMode = some m ↔ (s.arg 0).toNat % 16 = m.val := by
  have hfield : field (s.arg 0) 0 4 = (s.arg 0).toNat % 16 := by simp [field]
  simp only [State.argMode, hfield, Option.dite_none_right_eq_some, Option.some.injEq, Fin.ext_iff]
  exact ⟨fun ⟨_, h⟩ => h, fun h => ⟨h ▸ m.isLt, h⟩⟩

/-- The four plane codes of a LOAD_OPEN (R155). -/
theorem argPlane_cases (s : State) :
    (s.argPlane = some .target ↔ (s.arg 4).toNat / 2 % 4 = 0) ∧
    (s.argPlane = some .current ↔ (s.arg 4).toNat / 2 % 4 = 1) ∧
    (s.argPlane = some .frozen ↔ (s.arg 4).toNat / 2 % 4 = 2) ∧
    (s.argPlane = none ↔ (s.arg 4).toNat / 2 % 4 = 3) := by
  have hlt : (s.arg 4).toNat / 2 % 4 < 4 := Nat.mod_lt _ (by omega)
  rw [argPlane_eq]
  interval_cases (s.arg 4).toNat / 2 % 4 <;> decide

/-- Settles O5: each argument is a field of its word as a number. -/
theorem argumentsAreRead : Obligations.ArgumentsAreRead := by
  intro s
  have hlow : (fieldBits (s.arg 4) 0 8).toNat = (s.arg 4).toNat % 256 := by simp [toNat_fieldBits]
  have hhigh : (fieldBits (s.arg 4) 8 8).toNat = (s.arg 4).toNat / 256 :=
    (toNat_fieldBits _ _ _).trans (field_high_byte _)
  have hmode : (fieldBits (s.arg 5) 0 4).toNat = (s.arg 5).toNat % 16 := by simp [toNat_fieldBits]
  exact ⟨rfl, rfl, hlow, hhigh, hmode, bitOf_eq_testBit _ _, bitOf_eq_testBit _ _, hlow, hhigh, hmode,
    bitOf_eq_testBit _ _, bitOf_eq_testBit _ _, argOrientation_eq_some_iff s, argMode_eq_some_iff s, argPlane_cases s⟩

end Sys2Proof.Machine

/-! PROOFS. Writes of the configuration, argument and index registers, of POLICY and CONTROL, of COMMAND and of the
registers with a row of their own (R153 to R156, R159), O6 and O7. -/

namespace Sys2Proof.Machine

/-! ### A REGISTER_WRITE and the row that it acts as -/

theorem route_of_registerWriteOf {c : Instr} {p : Reg × Word} (h : registerWriteOf c = some p) :
    route c = some .write := by
  cases c <;> cases h <;> rfl

/-- A write access is the REGISTER_WRITE of its register and its word (R153; log 12). -/
theorem exec_registerWrite_eq {c : Instr} {r : Reg} {w : Word} (h : registerWriteOf c = some (r, w)) (s : State) :
    exec (.registerWrite r w) s = exec c s := by
  have heffect : (fun s : State => s.effect (.registerWrite r w)) = fun s => s.effect c :=
    funext fun s => (effect_of_registerWriteOf h s).symm
  rw [exec_shape s (route_of_registerWriteOf h), exec_shape s (c := .registerWrite r w) rfl, heffect]

/-- A REGISTER_WRITE as its effect, where that leaves what the end of a step looks at. -/
theorem exec_registerWrite {s t : State} (h : s.takes) {r : Reg} {w : Word} (heffect : s.writeRegister r w = t)
    (hk : s.keeps t) : exec (.registerWrite r w) s = .next t :=
  exec_of_keeps h (by simp [route]) heffect hk

theorem exec_unknownCommand {s : State} (h : s.takes) (w : Word) :
    exec (.unknownCommand w) s = .next (s.answered w .unknownCommand) :=
  exec_of_keeps h (by simp [route]) rfl ⟨rfl, rfl, rfl, rfl, rfl⟩

/-- A code of no command written to COMMAND (R154). -/
theorem exec_command_unassigned {s : State} (h : s.takes) {w : Word} (hw : w.toNat = 0 ∨ 16 ≤ w.toNat) :
    exec (.registerWrite .command w) s = .next (s.answered w .unknownCommand) := by
  refine exec_registerWrite h ?_ ⟨rfl, rfl, rfl, rfl, rfl⟩
  simp only [State.writeRegister, State.commanded, commandEffect_unassigned _ hw]
  rfl

/-! ### Configuration registers (R156) -/

section Configuration

variable (s : State) (w : Word)

theorem writeRegister_frameTime : s.writeRegister .frameTime w =
    { s with config := { s.config with frameTime := max 50 (min 500 w.toNat) } } := by
  simp only [State.writeRegister, State.writePlain, clamp_eq_max_min (show 50 ≤ 500 by omega)]

theorem writeRegister_powerTimes : s.writeRegister .powerTimes w =
    { s with config := { s.config with
      riseLimit := max 1 (w.toNat % 256), fallTime := max 1 (w.toNat / 256) } } := by
  have hlt := w.isLt
  rw [← clamp_of_le (hi := 255) (by omega) (by omega), ← clamp_of_le (hi := 255) (by omega) (by omega),
    ← field_low_byte, ← field_high_byte]
  rfl

theorem writeRegister_frameCounts : s.writeRegister .frameCounts w =
    { s with config := { s.config with
      idleFrames := w.toNat % 256, dischargeFrames := max 1 (w.toNat / 256) } } := by
  have hlt := w.isLt
  have hidle : clamp 0 255 (field w 0 8) = w.toNat % 256 := by
    rw [field_low_byte, clamp_of_le (by omega) (by omega), Nat.zero_max]
  rw [← hidle, ← clamp_of_le (hi := 255) (by omega) (by omega), ← field_high_byte]
  rfl

theorem writeRegister_scanTemp : s.writeRegister .scanTemp w =
    { s with config := { s.config with
      sckDiv := max 2 (min 16 (w.toNat % 256)), tempPeriod := w.toNat / 256 } } := by
  have hlt := w.isLt
  have hperiod : clamp 0 255 (field w 8 8) = w.toNat / 256 := by
    rw [field_high_byte, clamp_of_le (by omega) (by omega), Nat.zero_max]
  rw [← hperiod, ← clamp_eq_max_min (by omega), ← field_low_byte]
  rfl

theorem writePolicy_eq : s.writePolicy w =
    State.startPass { s with config := { s.config with
      partialLimit := min 15 (w.toNat % 256), cleanMode := ⟨min 7 (w.toNat / 256), by omega⟩ } } := by
  rw [State.writePolicy, field_low_byte, field_high_byte, clampMode_eq, clamp_eq_max_min (by omega), Nat.zero_max]

/-- AUTO_WAKE found clear and written set (R156). -/
theorem writeControl_of_wakes (h : s.bus.autoWake = false ∧ w.toNat.testBit 0 = true) :
    s.writeControl w = State.startPass { s with bus := { s.bus with
      autoWake := true, dreqEnable := w.toNat.testBit 1, statusPage := fieldBits w 2 2 } } := by
  obtain ⟨hclear, hset⟩ := h
  simp only [State.writeControl, bitOf_eq_testBit, hclear, hset, Bool.not_false, Bool.and_self, if_true]

theorem writeControl_of_not_wakes (h : ¬(s.bus.autoWake = false ∧ w.toNat.testBit 0 = true)) :
    s.writeControl w = { s with bus := { s.bus with
      autoWake := w.toNat.testBit 0, dreqEnable := w.toNat.testBit 1, statusPage := fieldBits w 2 2 } } := by
  have hcond : ¬((!s.bus.autoWake && w.toNat.testBit 0) = true) := by simpa using h
  simp only [State.writeControl, bitOf_eq_testBit, if_neg hcond]

end Configuration

theorem exec_policyWrite {s : State} (h : s.takes) (w : Word) :
    exec (.policyWrite w) s = .next (s.writePolicy w).settle :=
  exec_of_takes h (by simp [route])

/-- A geometry write takes the word as it stands or leaves the geometry (R16). -/
theorem geometry_writeGeometry (s : State) (axis : PanelAxis) (w : Word) :
    ((s.writeGeometry axis w).config.panelW = s.config.panelW ∨ (s.writeGeometry axis w).config.panelW = w.toNat) ∧
    ((s.writeGeometry axis w).config.panelH = s.config.panelH ∨ (s.writeGeometry axis w).config.panelH = w.toNat) := by
  by_cases h : s.quiescent = true ∧ programmable axis w.toNat = true
  · obtain ⟨hq, hp⟩ := h
    rw [writeGeometry_taken hq hp]
    cases axis with
    | width => exact ⟨.inr rfl, .inl rfl⟩
    | height => exact ⟨.inl rfl, .inr rfl⟩
  · rw [writeGeometry_refused h]
    exact ⟨.inl rfl, .inl rfl⟩

/-- Settles O6: each configuration register by its update, which the end of the step does not read; POLICY and CONTROL
with the pass that they start; the geometry as taken or refused. -/
theorem configurationWrites : Obligations.ConfigurationWrites := by
  intro s w h
  refine ⟨exec_registerWrite h (writeRegister_frameTime s w) ⟨rfl, rfl, rfl, rfl, rfl⟩,
    exec_registerWrite h (writeRegister_powerTimes s w) ⟨rfl, rfl, rfl, rfl, rfl⟩,
    exec_registerWrite h (writeRegister_frameCounts s w) ⟨rfl, rfl, rfl, rfl, rfl⟩,
    exec_registerWrite h (writeRegister_scanTemp s w) ⟨rfl, rfl, rfl, rfl, rfl⟩, ?_,
    ⟨fieldBits w 2 2, toNat_fieldBits w 2 2, ?_⟩, fun axis t ht => ?_⟩
  · rw [exec_policyWrite h, writePolicy_eq]
  · split
    · rename_i hwakes
      rw [exec_of_takes h (by simp [route]), State.effect, writeControl_of_wakes s w hwakes]
    · rename_i hwakes
      exact exec_of_keeps h (by simp [route]) (writeControl_of_not_wakes s w hwakes) ⟨rfl, rfl, rfl, rfl, rfl⟩
  · rw [exec_panelGeometryWrite h] at ht
    cases ht
    exact geometry_writeGeometry s axis w

/-! ### Argument, index and read-only registers (R153, R155, R159) -/

/-- The offset as a write to TABLE_INDEX_HI leaves it (R159). -/
theorem toNat_indexHi (w : Word) (off : BitVec 20) :
    (fieldBits w 0 4 ++ off.extractLsb' 0 16).toNat = w.toNat % 16 * 65536 + off.toNat % 65536 := by
  rw [toNat_append, toNat_fieldBits, BitVec.extractLsb'_toNat]
  simp

/-- The offset as a write to TABLE_INDEX_LO leaves it (R159). -/
theorem toNat_indexLo (w : Word) (off : BitVec 20) :
    (off.extractLsb' 16 4 ++ w).toNat = off.toNat / 65536 * 65536 + w.toNat := by
  have hlt := off.isLt
  rw [toNat_append, BitVec.extractLsb'_toNat, Nat.shiftRight_eq_div_pow]
  omega

theorem writeRegister_of_readOnly {r : Reg}
    (h : r = .id ∨ r = .status ∨ r = .cmdResult ∨ (∃ n, r = .comp n) ∨ r = .frameCount ∨ r = .tempCode ∨ r = .band
      ∨ r = .revision) (s : State) (w : Word) : s.writeRegister r w = s := by
  rcases h with rfl | rfl | rfl | ⟨n, rfl⟩ | rfl | rfl | rfl | rfl <;> rfl

/-- Settles O7: the plain registers by their updates, and each access with a row of its own as the write of its register. -/
theorem plainRegisterWrites : Obligations.PlainRegisterWrites := by
  intro s w h
  refine ⟨fun _ => exec_unknownCommand h w, fun n => exec_registerWrite h rfl ⟨rfl, rfl, rfl, rfl, rfl⟩,
    ⟨fieldBits w 8 3, _, toNat_fieldBits w 8 3, toNat_indexHi w s.bus.tableOffset,
      exec_registerWrite h rfl ⟨rfl, rfl, rfl, rfl, rfl⟩⟩,
    ⟨_, toNat_indexLo w s.bus.tableOffset, exec_registerWrite h rfl ⟨rfl, rfl, rfl, rfl, rfl⟩⟩,
    fun r hr => exec_registerWrite h (writeRegister_of_readOnly hr s w) ⟨rfl, rfl, rfl, rfl, rfl⟩,
    fun p hp => exec_registerWrite_eq (c := p.2) ?_ s, exec_command_unassigned h,
    exec_registerWrite_eq rfl s, exec_registerWrite_eq rfl s, exec_registerWrite_eq rfl s, exec_registerWrite_eq rfl s,
    exec_registerWrite_eq rfl s, exec_registerWrite_eq rfl s, exec_registerWrite_eq rfl s, exec_registerWrite_eq rfl s⟩
  revert p
  decide

end Sys2Proof.Machine

/-! PROOFS. What the registers show (R153, R154, R157, R158, Tables 11.1, 11.3, 11.5 and 11.6): the number in each register
word, O8 and O9. -/

namespace Sys2Proof.Machine

/-! ### The ranges of the codes (Tables 11.3, 11.5 and 11.6) -/

theorem Result.code_le (r : Result) : r.code ≤ 14 := by cases r <;> decide

theorem RejectReason.code_le (r : RejectReason) : r.code ≤ 3 := by cases r <;> decide

theorem RecordOutcome.code_le (o : RecordOutcome) : o.code ≤ 3 := by
  cases o with
  | rejected k => exact le_refl 3
  | _ => decide

theorem ClassReason.code_le (r : ClassReason) : r.code ≤ 3 := by cases r <;> decide

theorem LoadState.code_le (l : LoadState) : l.code ≤ 5 := by cases l <;> decide

theorem EndReason.code_le (r : EndReason) : r.code ≤ 3 := by cases r <;> decide

theorem ErrReason.code_le (r : ErrReason) : r.code ≤ 2 := by cases r <;> decide

theorem BadReason.code_le (r : BadReason) : r.code ≤ 5 := by cases r <;> decide

theorem CheckResult.code_le (r : CheckResult) : r.code ≤ 7 := by
  cases r with
  | bad b => exact Nat.succ_le_succ (b.code_le.trans (by decide))
  | _ => decide

theorem PowerState.code_le (p : PowerState) : p.code ≤ 5 := by cases p <;> decide

theorem FaultReason.code_le (r : FaultReason) : r.code ≤ 3 := by cases r <;> decide

theorem bandCode_le (c : Option TempClass) : bandCode c ≤ 9 := by
  match c with
  | none => decide
  | some (.band b) => exact b.is_le.trans (by decide)
  | some .out => decide

/-- The code of a value that may be absent, absence being coded 0. -/
theorem elim_code_le {α : Type} {code : α → Nat} {n : Nat} (h : ∀ a, code a ≤ n) (o : Option α) : o.elim 0 code ≤ n := by
  cases o with
  | none => exact Nat.zero_le n
  | some a => exact h a

/-- The reason field of a completion record, 0 with every outcome but REJECTED (Table 11.6). -/
def RecordOutcome.reasonCode : RecordOutcome → Nat
  | .rejected k => k.code
  | _ => 0

theorem RecordOutcome.reasonCode_le (o : RecordOutcome) : o.reasonCode ≤ 3 := by
  cases o with
  | rejected k => exact k.code_le
  | _ => exact Nat.zero_le 3

/-! ### The registers (R153, R158) -/

/-- A word whose fields add up to a number of sixteen bits. -/
theorem toNat_pack_eq {fields : List (Nat × Nat)} {n : Nat} (hsum : fieldSum fields = n) (hn : n < 65536) :
    (pack fields).toNat = n := by
  rw [toNat_pack (hsum ▸ hn), hsum]

/-- The upper limits of the configuration fields (R16, R156). -/
theorem config_le {c : ConfigRegs} (h : c.inRange = true) :
    c.frameTime ≤ 500 ∧ c.riseLimit ≤ 255 ∧ c.fallTime ≤ 255 ∧ c.idleFrames ≤ 255 ∧ c.dischargeFrames ≤ 255 ∧
      c.partialLimit ≤ 15 ∧ c.sckDiv ≤ 16 ∧ c.tempPeriod ≤ 255 ∧ c.panelW ≤ 1024 ∧ c.panelH ≤ 768 := by
  simp only [ConfigRegs.inRange, Bool.and_eq_true, decide_eq_true_eq, programmable_width_iff,
    programmable_height_iff] at h
  omega

section Shown

variable (s : State)

theorem toNat_control : (s.readRegister .control).toNat =
    flagBit s.bus.autoWake + 2 * flagBit s.bus.dreqEnable + 4 * s.bus.statusPage.toNat := by
  have hwake := flagBit_le s.bus.autoWake
  have hdreq := flagBit_le s.bus.dreqEnable
  exact toNat_pack_eq (by simp only [fieldSum_cons, fieldSum_nil, Nat.reducePow]; omega) (by omega)

theorem toNat_event : (s.readRegister .event).toNat = s.events.toNat :=
  BitVec.toNat_setWidth_of_le (by decide)

theorem toNat_eventMask : (s.readRegister .eventMask).toNat = s.eventMask.toNat :=
  BitVec.toNat_setWidth_of_le (by decide)

theorem toNat_tempCode : (s.readRegister .tempCode).toNat = s.temp.code.toNat :=
  BitVec.toNat_setWidth_of_le (by decide)

theorem toNat_cmdResult : (s.readRegister .cmdResult).toNat = s.bus.cmdResult.code :=
  toNat_wordOf (s.bus.cmdResult.code_le.trans_lt (by decide))

theorem toNat_tableIndexHi :
    (s.readRegister .tableIndexHi).toNat = s.bus.tableOffset.toNat / 65536 + 256 * s.bus.tableSpace.toNat :=
  toNat_pack_eq (by simp only [fieldSum_cons, fieldSum_nil, Nat.reducePow]; omega) (by omega)

theorem toNat_tableIndexLo : (s.readRegister .tableIndexLo).toNat = s.bus.tableOffset.toNat % 65536 := by
  simp [State.readRegister, BitVec.extractLsb'_toNat]

theorem comp_of_empty (h : s.completions = []) (n : Fin 4) : s.readRegister (.comp n) = 0 := by
  simp [State.readRegister, h]

theorem comp_of_head {r : Record} {rest : List Record} (h : s.completions = r :: rest) (n : Fin 4) :
    s.readRegister (.comp n) = r.word n := by
  simp [State.readRegister, h]

theorem toNat_band : (s.readRegister .band).toNat =
    bandCode s.temp.current + 16 * bandCode s.temp.candidate + 256 * bandCode s.temp.last
      + 4096 * s.temp.reason.code + 16384 * flagBit s.temp.converting := by
  have hcurrent := bandCode_le s.temp.current
  have hcandidate := bandCode_le s.temp.candidate
  have hlast := bandCode_le s.temp.last
  have hreason := s.temp.reason.code_le
  have hconverting := flagBit_le s.temp.converting
  exact toNat_pack_eq (by simp only [fieldSum_cons, fieldSum_nil, Nat.reducePow]; omega) (by omega)

end Shown

/-- The configuration registers, each field within its range. -/
theorem toNat_configRegisters {s : State} (h : s.config.inRange = true) :
    (s.readRegister .panelW).toNat = s.config.panelW ∧ (s.readRegister .panelH).toNat = s.config.panelH ∧
    (s.readRegister .frameTime).toNat = s.config.frameTime ∧
    (s.readRegister .powerTimes).toNat = s.config.riseLimit + 256 * s.config.fallTime ∧
    (s.readRegister .frameCounts).toNat = s.config.idleFrames + 256 * s.config.dischargeFrames ∧
    (s.readRegister .policy).toNat = s.config.partialLimit + 256 * s.config.cleanMode.val ∧
    (s.readRegister .scanTemp).toNat = s.config.sckDiv + 256 * s.config.tempPeriod := by
  obtain ⟨hframe, hrise, hfall, hidle, hdischarge, hpartial, hsck, htemp, hw, hh⟩ := config_le h
  have hbytes {a b : Nat} (ha : a ≤ 255) (hb : b ≤ 255) : (pack [(0, a), (8, b)]).toNat = a + 256 * b :=
    toNat_pack_eq (by simp only [fieldSum_cons, fieldSum_nil, Nat.reducePow]; omega) (by omega)
  exact ⟨toNat_wordOf (by omega), toNat_wordOf (by omega), toNat_wordOf (by omega), hbytes hrise hfall,
    hbytes hidle hdischarge, hbytes (by omega) (by omega), hbytes (by omega) htemp⟩

/-! ### The completion record (Table 11.6) -/

section CompletionRecord

variable (r : Record)

theorem toNat_compZero : (r.word 0).toNat =
    r.tag.toNat + 256 * flagBit r.widened + 512 * flagBit r.promoted + 1024 * flagBit r.started
      + 2048 * r.outcome.reasonCode + 8192 * r.outcome.code + 32768 := by
  have hword : r.word 0 = pack [(0, r.tag.toNat), (8, flagBit r.widened), (9, flagBit r.promoted),
      (10, flagBit r.started), (11, r.outcome.reasonCode), (13, r.outcome.code), (15, 1)] := rfl
  have hwidened := flagBit_le r.widened
  have hpromoted := flagBit_le r.promoted
  have hstarted := flagBit_le r.started
  have hreason := r.outcome.reasonCode_le
  have hcode := r.outcome.code_le
  rw [hword]
  exact toNat_pack_eq (by simp only [fieldSum_cons, fieldSum_nil, Nat.reducePow]; omega) (by omega)

theorem toNat_compOne (h : r.framesDriven ≤ 64) : (r.word 1).toNat =
    r.mode.val + 8 * flagBit r.band.isSome + 16 * r.band.elim 0 Fin.val + 128 * flagBit r.startStamp.isSome
      + 256 * r.framesDriven := by
  have hword : r.word 1 = pack [(0, r.mode.val), (3, flagBit r.band.isSome), (4, r.band.elim 0 Fin.val),
      (7, flagBit r.startStamp.isSome), (8, r.framesDriven)] := by
    cases hband : r.band <;> simp [Record.word, hband]
  have hbanded := flagBit_le r.band.isSome
  have hband := elim_code_le (code := Fin.val) Fin.is_le r.band
  have hstamp := flagBit_le r.startStamp.isSome
  rw [hword]
  exact toNat_pack_eq (by simp only [fieldSum_cons, fieldSum_nil, Nat.reducePow]; omega) (by omega)

end CompletionRecord

/-- Settles O8: each register by its own lemma, the codes spelled out by their values. -/
theorem registersShowTheState : Obligations.RegistersShowTheState := by
  intro s h classCode
  obtain ⟨hw, hh, hframe, hpower, hcounts, hpolicy, hscan⟩ := toNat_configRegisters h
  refine ⟨rfl, rfl, toNat_control s, toNat_event s, toNat_eventMask s, rfl, ?_, fun n => rfl, toNat_tableIndexHi s,
    toNat_tableIndexLo s, comp_of_empty s, fun r rest hr hdriven => ?_, rfl, toNat_tempCode s, ?_, hw, hh, hframe,
    hpower, hcounts, hpolicy, hscan⟩
  · rw [toNat_cmdResult]
    cases s.bus.cmdResult <;> rfl
  · simp only [comp_of_head s hr]
    refine ⟨(toNat_compZero r).trans ?_, (toNat_compOne r hdriven).trans ?_, rfl, rfl⟩
    · cases r.outcome with
      | rejected k => cases k <;> rfl
      | _ => rfl
    · cases r.band <;> rfl
  · have hclass : ∀ c, bandCode c = classCode c := fun c => by
      match c with
      | none | some (.band _) | some .out => rfl
    rw [toNat_band, hclass, hclass, hclass]
    cases s.temp.reason <;> rfl

/-! ### STATUS (R157) -/

section Status

variable {s : State}

theorem fieldSum_page_zero (h : s.bus.statusPage = 0) : fieldSum s.statusFields =
    s.load.state.code + 8 * s.load.fifo.length + 512 * s.load.endReason.code + 2048 * s.load.errReason.code := by
  simp only [State.statusFields, h, BitVec.reduceToNat, fieldSum_cons, fieldSum_nil, Nat.reducePow]
  omega

theorem fieldSum_page_one (h : s.bus.statusPage = 1) : fieldSum s.statusFields =
    s.queue.length + 16 * s.completions.length + 512 * s.load.loadResult.code := by
  simp only [State.statusFields, h, BitVec.reduceToNat, fieldSum_cons, fieldSum_nil, Nat.reducePow]
  omega

theorem fieldSum_page_two (h : s.bus.statusPage = 2) : fieldSum s.statusFields =
    s.store.checkMode.val + 8 * s.store.checkResult.code + 64 * s.posters.length := by
  simp only [State.statusFields, h, BitVec.reduceToNat, fieldSum_cons, fieldSum_nil, Nat.reducePow]
  omega

theorem fieldSum_page_three (h : s.bus.statusPage = 3) : fieldSum s.statusFields =
    s.power.state.code + 8 * flagBit s.power.downPending + 16 * flagBit s.power.wakePending
      + 32 * s.power.faultReason.code + 128 * flagBit s.power.dischargeIncomplete + 256 * flagBit s.pgood := by
  simp only [State.statusFields, h, BitVec.reduceToNat, fieldSum_cons, fieldSum_nil, Nat.reducePow]
  omega

theorem statusPage_cases (p : BitVec 2) : p = 0 ∨ p = 1 ∨ p = 2 ∨ p = 3 := by
  revert p
  decide

/-- The page leaves the two highest bits to the sticky flags. -/
theorem fieldSum_statusFields_lt (h : s.withinCapacity = true) (hposters : s.posters.length ≤ 24) :
    fieldSum s.statusFields < 16384 := by
  obtain ⟨hqueue, hcompletions, hfifo⟩ := (withinCapacity_iff s).mp h
  rcases statusPage_cases s.bus.statusPage with hp | hp | hp | hp
  · have hstate := s.load.state.code_le
    have hend := s.load.endReason.code_le
    have herr := s.load.errReason.code_le
    rw [fieldSum_page_zero hp]
    omega
  · have hresult := s.load.loadResult.code_le
    rw [fieldSum_page_one hp]
    omega
  · have hcheck := s.store.checkResult.code_le
    rw [fieldSum_page_two hp]
    omega
  · have hstate := s.power.state.code_le
    have hdown := flagBit_le s.power.downPending
    have hwake := flagBit_le s.power.wakePending
    have hfault := s.power.faultReason.code_le
    have hincomplete := flagBit_le s.power.dischargeIncomplete
    have hpgood := flagBit_le s.pgood
    rw [fieldSum_page_three hp]
    omega

theorem toNat_statusWord (h : s.withinCapacity = true) (hposters : s.posters.length ≤ 24) :
    s.statusWord.toNat =
      fieldSum s.statusFields + 16384 * flagBit s.bus.tableRefused + 32768 * flagBit s.bus.cfgRefused := by
  have hpage := fieldSum_statusFields_lt h hposters
  have htable := flagBit_le s.bus.tableRefused
  have hcfg := flagBit_le s.bus.cfgRefused
  exact toNat_pack_eq (by simp only [fieldSum_append, fieldSum_cons, fieldSum_nil, Nat.reducePow]; omega) (by omega)

end Status

/-- Settles O9: the read as its update of the bus registers; then the word as its page and the two flags, page by page
with the codes spelled out by their values. -/
theorem statusRead : Obligations.StatusRead := by
  refine ⟨fun s h => exec_of_keeps h (by simp [route]) rfl ⟨rfl, rfl, rfl, rfl, rfl⟩,
    fun s hcapacity hposters => ⟨fieldSum s.statusFields, toNat_statusWord hcapacity hposters, fun hp => ?_, fun hp => ?_,
      fun hp => ?_, fun hp => ?_⟩⟩
  · exact fieldSum_page_zero hp
  · rw [fieldSum_page_one hp]
    cases s.load.loadResult <;> rfl
  · rw [fieldSum_page_two hp]
    cases s.store.checkResult with
    | bad r => cases r <;> rfl
    | _ => rfl
  · exact fieldSum_page_three hp

end Sys2Proof.Machine

/-! PROOFS. The table port (R137, R159, R160): the band table and the read-only spaces written, a read of TABLE_DATA, and
the words of the spaces as numbers (Table 11.7), O26. -/

namespace Sys2Proof.Machine

/-! ### Writes to spaces 3 to 7 and reads (R137, R159, R160) -/

/-- The three rows of TABLE_DATA writes are one access (log 12). -/
theorem exec_tableData {s : State} (h : s.takes) {c : Instr} {w : Word}
    (hc : registerWriteOf c = some (.tableData, w)) : exec c s = .next (s.tablePortWrite w) := by
  rw [← exec_registerWrite_eq hc, exec_registerWrite_eq (c := .tableDataWrite w) rfl, exec_tableDataWrite h]

theorem tablePortWrite_bandTable {s : State} (h : s.bus.tableSpace = 3) (w : Word) :
    s.tablePortWrite w = (s.writeBandTable s.bus.tableOffset.toNat w).advanceIndex := by
  simp [State.tablePortWrite, h]

theorem tablePortWrite_readOnly {s : State} (hlo : 4 ≤ s.bus.tableSpace.toNat) (hhi : s.bus.tableSpace.toNat ≤ 6)
    (w : Word) : s.tablePortWrite w = (s.raise .tableErr).advanceIndex := by
  have hsp : s.bus.tableSpace.toNat = 4 ∨ s.bus.tableSpace.toNat = 5 ∨ s.bus.tableSpace.toNat = 6 := by omega
  rcases hsp with hsp | hsp | hsp <;> simp only [State.tablePortWrite, hsp]

theorem tablePortWrite_unused {s : State} (h : s.bus.tableSpace = 7) (w : Word) :
    s.tablePortWrite w = s.advanceIndex := by
  simp [State.tablePortWrite, h]

section BandTable

variable (s : State) (off : Nat) (w : Word)

/-- A write to the band table changes the Temperature Unit alone. -/
theorem writeBandTable_eq : s.writeBandTable off w = { s with temp := (s.writeBandTable off w).temp } := by
  unfold State.writeBandTable
  split
  · rfl
  · rfl
  · split <;> rfl

theorem lowLimit_writeBandTable : (s.writeBandTable off w).temp.lowLimit =
    if off = 0 then fieldBits w 0 10 else s.temp.lowLimit := by
  unfold State.writeBandTable
  split
  · rfl
  · rfl
  · split <;> simp [*]

theorem bandCount_writeBandTable : (s.writeBandTable off w).temp.bandCount =
    if off = 1 then fieldBits w 0 4 else s.temp.bandCount := by
  unfold State.writeBandTable
  split
  · rfl
  · rfl
  · split <;> simp [*]

theorem upper_writeBandTable (b : Fin 8) : (s.writeBandTable off w).temp.upper[b] =
    if off = 2 + b.val then fieldBits w 0 11 else s.temp.upper[b] := by
  unfold State.writeBandTable
  split
  · rw [if_neg (by omega)]
  · rw [if_neg (by omega)]
  · split
    · simp only [Fin.getElem_fin, Vector.getElem_set]
      congr 1
      simp only [eq_iff_iff]
      omega
    · rw [if_neg (by omega)]

/-- A write to the band table leaves the classification and the conversion as they are. -/
theorem restored_writeBandTable :
    { (s.writeBandTable off w).temp with
      lowLimit := s.temp.lowLimit, bandCount := s.temp.bandCount, upper := s.temp.upper } = s.temp := by
  unfold State.writeBandTable
  split
  · rfl
  · rfl
  · split <;> rfl

end BandTable

/-! ### The words beyond a space's size -/

theorem tableWord_beyond (s : State) :
    (∀ k, 128 ≤ k → s.tableWord 0 k = 0) ∧ (∀ k, 16384 ≤ k → s.tableWord 1 k = 0 ∧ s.tableWord 2 k = 0) ∧
    (∀ k, 10 ≤ k → s.tableWord 3 k = 0) ∧ (∀ k, s.tiles.length ≤ k → s.tableWord 4 k = 0) ∧
    (∀ k, 256 ≤ k → s.tableWord 5 k = 0) ∧ (∀ k, 8 * s.queue.length ≤ k → s.tableWord 6 k = 0) ∧
    (∀ k, s.tableWord 7 k = 0) := by
  refine ⟨fun k hk => tableWord_zero_beyond s (Nat.not_lt.mpr hk),
    fun k hk => ⟨if_neg (Nat.not_lt.mpr hk), if_neg (Nat.not_lt.mpr hk)⟩, fun k hk => ?_, fun k hk => ?_,
    fun k hk => dif_neg (Nat.not_lt.mpr hk), fun k hk => ?_, fun k => rfl⟩
  · have h0 : k ≠ 0 := by omega
    have h1 : k ≠ 1 := by omega
    have h10 : ¬(2 ≤ k ∧ k < 10) := by omega
    simp [State.tableWord, h0, h1, h10]
  · simp [State.tableWord, List.getElem?_eq_none hk]
  · have hentry : s.queue.length ≤ k / 8 := by omega
    simp [State.tableWord, List.getElem?_eq_none hentry]

/-! ### Spaces 0 to 4 (Table 11.7) -/

theorem tableWord_block (s : State) (m : Fin 8) {k : Nat} (hk : k < 16) :
    s.tableWord 0 (16 * m.val + k) = (s.mode m).word (s.inUse m) k := by
  have hmode : (⟨(16 * m.val + k) / 16, by omega⟩ : Fin 8) = m := Fin.ext (by dsimp only; omega)
  have hword : (16 * m.val + k) % 16 = k := by omega
  rw [tableWord_zero s (by omega), hmode, hword]

/-- The queue and the sixteen slots bound a mode's in-use count (R44). -/
theorem inUse_le (s : State) (m : Fin 8) : s.inUse m ≤ s.queue.length + 16 :=
  Nat.add_le_add List.countP_le_length List.countP_le_length

/-- A word that is one field from bit 0. -/
theorem toNat_pack_single {n : Nat} (h : n < 65536) : (pack [(0, n)]).toNat = n := by
  rw [toNat_pack_one, Nat.mod_eq_of_lt h]

section DescriptorWords

variable (d : Descriptor) (used : Nat)

theorem toNat_word_options :
    (d.word used 0).toNat = d.levelCode.toNat + 4 * flagBit d.flash + 8 * flagBit d.changedOnly := by
  have hflash := flagBit_le d.flash
  have hchanged := flagBit_le d.changedOnly
  exact toNat_pack_eq (by simp only [fieldSum_cons, fieldSum_nil, Nat.reducePow]; omega) (by omega)

theorem toNat_word_frameCount (b : Fin 8) : (d.word used (4 + b.val)).toNat = (d.frameCounts[b]).toNat := by
  rw [Nat.add_comm, word_frameCount d used b.isLt]
  exact toNat_pack_single (by omega)

theorem toNat_word_state : (d.word used 13).toNat = d.state.code + 16 * d.badReason.elim 0 BadReason.code := by
  have hword : d.word used 13 = pack [(0, d.state.code), (4, d.badReason.elim 0 BadReason.code)] := by
    cases hreason : d.badReason <;> simp [Descriptor.word, hreason]
  have hstate : d.state.code ≤ 4 := by cases d.state <;> decide
  have hreason := elim_code_le BadReason.code_le d.badReason
  rw [hword]
  exact toNat_pack_eq (by simp only [fieldSum_cons, fieldSum_nil, Nat.reducePow]; omega) (by omega)

end DescriptorWords

theorem toNat_tableWord_pair (s : State) {k : Nat} (hk : k < 16384) :
    (s.tableWord 1 k).toNat = pairNumber (s.pairAt k) := by
  have hlt : pairNumber (s.pairAt k) < 65536 := by
    cases s.pairAt k with
    | none => decide
    | some o => simp only [pairNumber]; omega
  exact (congrArg BitVec.toNat (if_pos hk)).trans (toNat_wordOf hlt)

theorem toNat_tableWord_upper (s : State) (b : Fin 8) :
    (s.tableWord 3 (2 + b.val)).toNat = (s.temp.upper[b]).toNat := by
  have hword : s.tableWord 3 (2 + b.val) = wordOf (s.temp.upper[b]).toNat := by
    have h1 : 2 + b.val ≠ 1 := by omega
    have h10 : 2 + b.val < 10 := by omega
    simp [State.tableWord, h1, h10]
  rw [hword]
  exact toNat_wordOf (by omega)

theorem toNat_tileWord {t : Tile} (h : t.count ≤ 15) :
    t.word.toNat = t.owner.elim 0 Fin.val + 16 * flagBit t.owner.isSome + 32 * flagBit t.known + 256 * t.count := by
  have hword : t.word = pack [(0, t.owner.elim 0 Fin.val), (4, flagBit t.owner.isSome), (5, flagBit t.known),
      (8, t.count)] := by
    cases howner : t.owner <;> simp [Tile.word, howner]
  have howner := elim_code_le (code := Fin.val) Fin.is_le t.owner
  have howned := flagBit_le t.owner.isSome
  have hknown := flagBit_le t.known
  rw [hword]
  exact toNat_pack_eq (by simp only [fieldSum_cons, fieldSum_nil, Nat.reducePow]; omega) (by omega)

/-! ### Slots and entries (Table 11.7, spaces 5 and 6) -/

theorem tableWord_slot (s : State) (n : Fin 16) {k : Nat} (hk : k < 16) :
    s.tableWord 5 (16 * n.val + k) = (s.slot n).word k := by
  have hslot : (⟨(16 * n.val + k) / 16, by omega⟩ : Fin 16) = n := Fin.ext (by dsimp only; omega)
  have hword : (16 * n.val + k) % 16 = k := by omega
  refine (dif_pos (show 16 * n.val + k < 256 by omega)).trans ?_
  rw [hslot, hword]

theorem tableWord_entry {s : State} {i : Nat} {e : Entry} (hi : i < 8) (he : s.queue[i]? = some e) {k : Nat}
    (hk : k < 8) : s.tableWord 6 (8 * i + k) = e.word k := by
  have hentry : (8 * i + k) / 8 = i := by omega
  have hword : (8 * i + k) % 8 = k := by omega
  have hsize : 8 * i + k < 64 := by omega
  simp [State.tableWord, hsize, hentry, hword, he]

/-- A rectangle inside the largest panel fits its four words. -/
theorem toNat_rect {r : Rect} (h : r.legal 1024 768 = true) :
    (wordOf r.x).toNat = r.x ∧ (wordOf r.y).toNat = r.y ∧ (wordOf r.w).toNat = r.w ∧ (wordOf r.h).toNat = r.h := by
  simp only [Rect.legal, Bool.and_eq_true, decide_eq_true_eq] at h
  exact ⟨toNat_wordOf (by omega), toNat_wordOf (by omega), toNat_wordOf (by omega), toNat_wordOf (by omega)⟩

section SlotWords

variable {sl : Slot} (h : sl.state ≠ .free)

include h

theorem toNat_slotWord_state : (sl.word 0).toNat =
    sl.state.code + 16 * sl.outcome.elim 0 SlotOutcome.code + 64 * flagBit sl.snapshotDone
      + 128 * flagBit sl.drivenAnything + 256 * sl.tag.toNat := by
  have hword : sl.word 0 = pack [(0, sl.state.code), (4, sl.outcome.elim 0 SlotOutcome.code),
      (6, flagBit sl.snapshotDone), (7, flagBit sl.drivenAnything), (8, sl.tag.toNat)] := by
    cases houtcome : sl.outcome <;> simp [Slot.word, h, houtcome]
  have hstate : sl.state.code ≤ 4 := by cases sl.state <;> decide
  have houtcome := elim_code_le (code := SlotOutcome.code) (n := 3) (fun o => by cases o <;> decide) sl.outcome
  have hsnapshot := flagBit_le sl.snapshotDone
  have hdriven := flagBit_le sl.drivenAnything
  rw [hword]
  exact toNat_pack_eq (by simp only [fieldSum_cons, fieldSum_nil, Nat.reducePow]; omega) (by omega)

theorem slotWord_rect :
    sl.word 1 = wordOf sl.rect.x ∧ sl.word 2 = wordOf sl.rect.y ∧ sl.word 3 = wordOf sl.rect.w ∧
      sl.word 4 = wordOf sl.rect.h :=
  ⟨if_neg h, if_neg h, if_neg h, if_neg h⟩

theorem toNat_slotWord_mode : (sl.word 5).toNat =
    sl.mode.val + 16 * sl.band.val + 256 * flagBit sl.promoted + 512 * flagBit sl.widened
      + 1024 * flagBit sl.notify + 2048 * flagBit sl.startStamp.isSome := by
  have hpromoted := flagBit_le sl.promoted
  have hwidened := flagBit_le sl.widened
  have hnotify := flagBit_le sl.notify
  have hstamp := flagBit_le sl.startStamp.isSome
  rw [Slot.word, if_neg h]
  exact toNat_pack_eq (by simp only [fieldSum_cons, fieldSum_nil, Nat.reducePow]; omega) (by omega)

theorem toNat_slotWord_frames (htotal : sl.frameTotal ≤ 64) (hindex : sl.frameIndex ≤ 64) :
    (sl.word 6).toNat = sl.frameTotal + 256 * sl.frameIndex := by
  rw [Slot.word, if_neg h]
  exact toNat_pack_eq (by simp only [fieldSum_cons, fieldSum_nil, Nat.reducePow]; omega) (by omega)

theorem toNat_slotWord_driven (hdriven : sl.framesDriven ≤ 64) : (sl.word 7).toNat = sl.framesDriven := by
  rw [Slot.word, if_neg h]
  exact toNat_pack_single (by omega)

theorem slotWord_stamp : sl.word 8 = sl.startStamp.getD 0 := if_neg h

omit h in
theorem slotWord_beyond (sl : Slot) {k : Nat} (hk : 9 ≤ k) : sl.word k = 0 := by
  obtain ⟨j, rfl⟩ := Nat.exists_eq_add_of_le' hk
  exact ite_self 0

end SlotWords

section EntryWords

variable (e : Entry)

theorem toNat_entryWord_tags : (e.word 0).toNat = e.tag.toNat + 256 * e.afterTag.toNat :=
  toNat_pack_eq (by simp only [fieldSum_cons, fieldSum_nil, Nat.reducePow]; omega) (by omega)

/-- The reason field of an entry, 0 but in REJECTING (Table 11.7, space 6). -/
def EntryState.reasonCode : EntryState → Nat
  | .rejecting r => r.code
  | _ => 0

theorem toNat_entryWord_state : (e.word 1).toNat =
    e.state.code + 4 * e.state.reasonCode + 16 * e.mode.val + 128 * flagBit e.notify + 256 * flagBit e.noPromote := by
  have hword : e.word 1 = pack [(0, e.state.code), (2, e.state.reasonCode), (4, e.mode.val), (7, flagBit e.notify),
      (8, flagBit e.noPromote)] := rfl
  have hstate : e.state.code ≤ 3 ∧ e.state.reasonCode ≤ 3 := by
    cases e.state with
    | rejecting r => exact ⟨le_refl 3, r.code_le⟩
    | _ => decide
  have hnotify := flagBit_le e.notify
  have hpromote := flagBit_le e.noPromote
  rw [hword]
  exact toNat_pack_eq (by simp only [fieldSum_cons, fieldSum_nil, Nat.reducePow]; omega) (by omega)

end EntryWords

/-- Settles O26: the accesses as their updates; then each space, word by word, the codes spelled out by their values. -/
theorem tablePortReadsAndViews : Obligations.TablePortReadsAndViews := by
  intro s w h off advanced
  obtain ⟨hbeyond0, hbeyond12, hbeyond3, hbeyond4, hbeyond5, hbeyond6, hbeyond7⟩ := tableWord_beyond s
  refine ⟨by simp [off, BitVec.toNat_add], fun hsp => ⟨(s.writeBandTable off w).temp, ?_, ?_, ?_, fun b => ?_,
      restored_writeBandTable s off w⟩,
    fun hlo hhi => ?_, fun hsp => ?_, exec_of_keeps h (by simp [route]) rfl ⟨rfl, rfl, rfl, rfl, rfl⟩,
    hbeyond0, hbeyond12, hbeyond3, hbeyond4, hbeyond5, hbeyond6, hbeyond7, fun k t ht hcount => ?_, fun m => ?_,
    fun k hk => ⟨?_, if_pos hk⟩, toNat_wordOf (by omega), toNat_wordOf (by omega), toNat_tableWord_upper s,
    fun n k hk hfree => ?_, fun n hn => ?_, fun i e hi he => ?_⟩
  · rw [exec_tableData h rfl, tablePortWrite_bandTable hsp, writeBandTable_eq]
    rfl
  · rw [lowLimit_writeBandTable]
    split <;> simp [toNat_fieldBits]
  · rw [bandCount_writeBandTable]
    split <;> simp [toNat_fieldBits]
  · rw [upper_writeBandTable]
    split <;> simp [toNat_fieldBits]
  · rw [exec_tableData h rfl, tablePortWrite_readOnly hlo hhi]
    rfl
  · rw [exec_tableData h rfl, tablePortWrite_unused hsp]
    rfl
  · have hword : s.tableWord 4 k = t.word := by simp [State.tableWord, ht]
    rw [hword, toNat_tileWord hcount]
    cases t.owner <;> simp [flagBit]
  · intro d base
    have hblock {k : Nat} (hk : k < 16) : s.tableWord 0 (base + k) = d.word (s.inUse m) k := tableWord_block s m hk
    refine ⟨?_, ?_, ?_, ?_, fun b => ?_, ?_, ?_, fun hq => ?_, ?_⟩
    · exact (congrArg BitVec.toNat (hblock (k := 0) (by omega))).trans (toNat_word_options d _)
    · rw [hblock (by omega)]
      exact toNat_pack_single (by omega)
    · rw [hblock (by omega)]
      exact toNat_pack_single (by omega)
    · rw [hblock (by omega)]
      exact toNat_pack_single (by omega)
    · rw [Nat.add_assoc, hblock (by omega), toNat_word_frameCount]
    · exact hblock (by omega)
    · rw [hblock (by omega), toNat_word_state]
      cases d.badReason with
      | none => rfl
      | some r => cases r <;> rfl
    · have hused := inUse_le s m
      rw [hblock (by omega)]
      exact toNat_pack_single (by omega)
    · exact hblock (by omega)
  · rw [toNat_tableWord_pair s hk]
    rfl
  · exact (tableWord_slot s n hk).trans (if_pos hfree)
  · intro sl base
    have hblock {k : Nat} (hk : k < 16) : s.tableWord 5 (base + k) = sl.word k := tableWord_slot s n hk
    obtain ⟨hx, hy, hw, hh⟩ := slotWord_rect hn
    refine ⟨fun hlegal => ?_, ?_, fun htotal hindex => ?_, fun hdriven => ?_, ?_, fun k hlo hk => ?_, ?_⟩
    · rw [hblock (by omega), hblock (by omega), hblock (by omega), hblock (by omega), hx, hy, hw, hh]
      exact toNat_rect hlegal
    · rw [hblock (by omega), toNat_slotWord_mode hn]
    · rw [hblock (by omega), toNat_slotWord_frames hn htotal hindex]
    · rw [hblock (by omega), toNat_slotWord_driven hn hdriven]
    · rw [hblock (by omega), slotWord_stamp hn]
    · rw [hblock hk, slotWord_beyond sl hlo]
    · refine (congrArg BitVec.toNat (hblock (k := 0) (by omega))).trans ((toNat_slotWord_state hn).trans ?_)
      cases (s.slot n).outcome with
      | none => rfl
      | some o => cases o <;> rfl
  · have hblock {k : Nat} (hk : k < 8) : s.tableWord 6 (8 * i + k) = e.word k := tableWord_entry hi he hk
    refine ⟨?_, ?_, fun hlegal => ?_, hblock (by omega), hblock (by omega)⟩
    · exact (congrArg BitVec.toNat (hblock (k := 0) (by omega))).trans (toNat_entryWord_tags e)
    · rw [hblock (by omega), toNat_entryWord_state]
      cases e.state with
      | rejecting r => cases r <;> rfl
      | _ => rfl
    · rw [hblock (by omega), hblock (by omega), hblock (by omega), hblock (by omega)]
      exact toNat_rect hlegal

end Sys2Proof.Machine

/-! PROOFS. The front of the queue, what every command and event keeps, and the accesses that the part does not take
(R22, R162, R163): O1, O3 and O4. -/

namespace Sys2Proof.Machine

/-! ### The front of the queue -/

theorem step_of_cons {s : State} {c : Instr} {rest : List Instr} (h : s.pending = c :: rest) :
    step s = exec c { s with pending := rest } := by
  simp only [step, h]

/-- Settles O1: the nonempty queue's branch of a step. -/
theorem queueFrontRuns : Obligations.QueueFrontRuns :=
  fun _ _ _ h => step_of_cons h

/-! ### The ways in while nRESET is low, and while an access is being stretched -/

theorem access_inReset {s : State} (h : s.phase = .inReset) (f : State → State) : s.access f = s := by
  simp [State.access, h]

theorem readAccess_inReset {s : State} (h : s.phase = .inReset) (f : State → State) :
    s.readAccess f = { s with bus := { s.bus with busData := 0 } } := by
  simp [State.readAccess, h]

theorem event_inReset {s : State} (h : s.phase = .inReset) (f : State → State) : s.event f = s := by
  simp [State.event, h]

theorem access_stretched {s : State} (h : s.phase = .running) (hs : s.bus.stretched.isSome = true)
    (f : State → State) : s.access f = s := by
  simp [State.access, h, hs]

theorem readAccess_stretched {s : State} (h : s.phase = .running) (hs : s.bus.stretched.isSome = true)
    (f : State → State) : s.readAccess f = s := by
  simp [State.readAccess, h, hs]

/-! ### What every command and event keeps -/

/-- No command and no event touches the queue of those that wait. -/
theorem pending_effect (c : Instr) (s : State) : (s.effect c).pending = s.pending := by
  cases hw : registerWriteOf c with
  | some rw =>
    rw [effect_of_registerWriteOf hw s]
    simp
  | none =>
    cases c with
    | unknownCommand code => rfl
    | pinReset => rfl
    | vddApplied =>
      simp only [State.effect, State.applyVdd]
      split <;> rfl
    | resetRelease =>
      simp only [State.effect, State.releaseReset]
      split <;> rfl
    | busAccessInReset a =>
      simp only [State.effect, State.accessInReset]
      split <;> rfl
    | _ => simp_all [State.effect, registerWriteOf]

/-- Only the pins that act on the part as a whole change the index of the free values (log 2). -/
theorem freeIndex_effect {c : Instr} (hc : route c ≠ none) (s : State) : (s.effect c).freeIndex = s.freeIndex := by
  cases hw : registerWriteOf c with
  | some rw =>
    rw [effect_of_registerWriteOf hw s]
    simp
  | none =>
    cases c with
    | unknownCommand code => rfl
    | vddApplied | pinReset | resetRelease | busAccessInReset => simp [route] at hc
    | _ => simp_all [State.effect, registerWriteOf]

theorem releaseReset_running {s : State} (h : s.phase = .running) : s.releaseReset = s := by
  simp [State.releaseReset, h]

theorem accessInReset_running {s : State} (h : s.phase = .running) (a : BusAccess) : s.accessInReset a = s := by
  simp [State.accessInReset, h]

/-- The pins that act on the part as a whole do nothing to a running part but reset it or power it up. -/
theorem effect_of_no_route_running {c : Instr} {s : State} (hc : route c = none) (hp : s.phase = .running)
    (hvdd : c ≠ .vddApplied) (hpin : c ≠ .pinReset) : s.effect c = s := by
  cases c with
  | vddApplied => exact absurd rfl hvdd
  | pinReset => exact absurd rfl hpin
  | resetRelease => exact releaseReset_running hp
  | busAccessInReset a => exact accessInReset_running hp a
  | _ => simp [route] at hc

theorem exec_answers (c : Instr) (s : State) : ∃ t, exec c s = .next t := by
  rcases exec_cases c s with
    ⟨-, hx⟩ | ⟨-, -, hx⟩ | hx | hx | ⟨-, b, hx⟩ | ⟨-, hx⟩ | ⟨-, b, hx⟩
  all_goals exact ⟨_, hx⟩

theorem pending_exec {c : Instr} {s t : State} (h : exec c s = .next t) : t.pending = s.pending := by
  rcases exec_cases c s with
    ⟨-, hx⟩ | ⟨-, -, hx⟩ | hx | hx | ⟨-, b, hx⟩ | ⟨-, hx⟩ | ⟨-, b, hx⟩ <;>
    cases hx.symm.trans h
  · exact pending_effect c s
  · exact (settle_frame _).1.trans (pending_effect c s)
  all_goals rfl

/-- A running part that is neither powered up nor reset runs on, with the same free values. -/
theorem running_exec {c : Instr} {s t : State} (hp : s.phase = .running) (hvdd : c ≠ .vddApplied)
    (hpin : c ≠ .pinReset) (h : exec c s = .next t) : t.phase = .running ∧ t.freeIndex = s.freeIndex := by
  rcases exec_cases c s with
    ⟨hc, hx⟩ | ⟨-, hc, hx⟩ | hx | hx | ⟨hr, -⟩ | ⟨hu, -⟩ | ⟨hu, -⟩
  · cases hx.symm.trans h
    rw [effect_of_no_route_running hc hp hvdd hpin]
    exact ⟨hp, rfl⟩
  · cases hx.symm.trans h
    obtain ⟨-, hphase, hindex, -⟩ := settle_frame (s.effect c)
    exact ⟨hphase.trans ((phase_effect hc s).trans hp), hindex.trans (freeIndex_effect hc s)⟩
  · cases hx.symm.trans h
    exact ⟨hp, rfl⟩
  · cases hx.symm.trans h
    exact ⟨hp, rfl⟩
  · simp [hp] at hr
  all_goals simp [hp] at hu

/-- Settles O3: by the ways in which a command or event is taken or not taken (`exec_cases`). -/
theorem everyCommandAnswers : Obligations.EveryCommandAnswers := by
  intro c s
  obtain ⟨t, ht⟩ := exec_answers c s
  exact ⟨t, ht, pending_exec ht, fun hp hvdd hpin => running_exec hp hvdd hpin ht⟩

/-! ### The accesses that are not taken (R22, R163) -/

/-- The write accesses are those that reach the part as such, and the one made while nRESET is low. -/
theorem isBusWrite_iff (c : Instr) :
    c.isBusWrite = true ↔ route c = some .write ∨ c = .busAccessInReset .write := by
  cases c with
  | submit | cancel | cancelAll | pop | loadOpen | loadClose | fill | tileSet | modeCheck | modeErase | powerUp
  | powerDown | clearFault | sampleTemp | softReset | unknownCommand | loadDataWrite | tableDataWrite
  | bandTableWrite | readOnlySpaceWrite | eventWrite | eventMaskWrite | panelGeometryWrite | policyWrite
  | controlWrite | registerWrite => exact iff_of_true rfl (.inl rfl)
  | busAccessInReset a =>
    cases a with
    | write => exact iff_of_true rfl (.inr rfl)
    | read => exact iff_of_false Bool.false_ne_true (by rintro (h | h) <;> cases h)
  | _ => exact iff_of_false Bool.false_ne_true (by rintro (h | h) <;> cases h)

/-- The read accesses are those that reach the part as such, and the one made while nRESET is low. -/
theorem isBusRead_iff (c : Instr) :
    c.isBusRead = true ↔ route c = some .read ∨ c = .busAccessInReset .read := by
  cases c with
  | loadDataRead | tableDataRead | statusRead => exact iff_of_true rfl (.inl rfl)
  | busAccessInReset a =>
    cases a with
    | read => exact iff_of_true rfl (.inr rfl)
    | write => exact iff_of_false Bool.false_ne_true (by rintro (h | h) <;> cases h)
  | _ => exact iff_of_false Bool.false_ne_true (by rintro (h | h) <;> cases h)

theorem exec_write_inReset {c : Instr} {s : State} (hc : c.isBusWrite = true) (h : s.phase = .inReset) :
    exec c s = .next s := by
  rcases (isBusWrite_iff c).mp hc with hr | rfl
  · rw [exec_shape s hr, State.through, access_inReset h]
  · rw [exec_of_no_route s rfl]
    simp [State.effect, State.accessInReset, h]

theorem exec_read_inReset {c : Instr} {s : State} (hc : c.isBusRead = true) (h : s.phase = .inReset) :
    exec c s = .next { s with bus := { s.bus with busData := 0 } } := by
  rcases (isBusRead_iff c).mp hc with hr | rfl
  · rw [exec_shape s hr, State.through, readAccess_inReset h]
  · rw [exec_of_no_route s rfl]
    simp [State.effect, State.accessInReset, h]

theorem exec_busAccessInReset_running {s : State} (h : s.phase = .running) (a : BusAccess) :
    exec (.busAccessInReset a) s = .next s := by
  rw [exec_of_no_route s rfl, State.effect, accessInReset_running h]

/-- No access reaches the part while another one is being stretched (log 11). -/
theorem exec_access_stretched {c : Instr} {s : State} (hc : (c.isBusWrite || c.isBusRead) = true)
    (h : s.phase = .running) (hs : s.bus.stretched.isSome = true) : exec c s = .next s := by
  rw [Bool.or_eq_true, isBusWrite_iff, isBusRead_iff] at hc
  rcases hc with (hr | rfl) | (hr | rfl)
  · rw [exec_shape s hr, State.through, access_stretched h hs]
  · exact exec_busAccessInReset_running h .write
  · rw [exec_shape s hr, State.through, readAccess_stretched h hs]
  · exact exec_busAccessInReset_running h .read

/-- Settles O4: the writes and the reads while nRESET is low, and both kinds while an access is being stretched. -/
theorem accessesNotTaken : Obligations.AccessesNotTaken :=
  fun _ _ => ⟨fun h hc => exec_write_inReset hc h, fun h hc => exec_read_inReset hc h,
    fun h hs hc => exec_access_stretched hc h hs⟩

end Sys2Proof.Machine

/-! PROOFS. The pin reset, its release and the application of VDD (R5, R56, R161, R162), and the reset state: O52 and
O54. -/

namespace Sys2Proof.Machine

/-! ### The pin reset and its outputs (R162) -/

/-- But for what a pin reset keeps and for the first frame period, the part in reset is in the reset state. -/
theorem pinReset_released (s : State) :
    { s.pinReset with
      pending := [], phase := .running, freeIndex := 0, pgood := false, image := State.reset.image,
      store := { s.pinReset.store with pairs := [], rows := [] }, bus := BusInterface.reset,
      frame := State.reset.frame } = State.reset := rfl

/-- With no scan in progress the drive port is idle (R113, R115). -/
theorem port_idle_of_none {s : State} (h : s.scan = none) :
    s.oe = false ∧ s.gst = false ∧ s.sckRunning = false ∧ s.sle = false ∧ s.gck = false ∧
      s.sdo = List.replicate 8 .neutral := by
  simp [State.oe, State.gst, State.sckRunning, State.sle, State.gck, sdo_of_none h, h]

theorem nINT_of_no_flag {s : State} (h : s.events = 0) : s.nINT = true := by
  simp [State.nINT, h]

theorem dreq_eq_false_of_disabled {s : State} (h : s.bus.dreqEnable = false) : s.dreq = false := by
  simp [State.dreq, h]

theorem nWait_of_not_stretched {s : State} (h : s.bus.stretched = none) : s.nWait = true := by
  simp [State.nWait, h]

theorem pwrEn_eq_false_of_reset {s : State} (h : s.power = PowerSequencer.reset) : s.pwrEn = false := by
  simp [State.pwrEn, h, PowerSequencer.reset]

/-- D[15:0] is not driven exactly while nRESET is low. -/
theorem dataBus_eq_none_iff (s : State) : s.dataBus = none ↔ s.phase = .inReset := by
  cases hp : s.phase <;> simp [State.dataBus, hp]

theorem dataBus_of_not_inReset {s : State} (h : s.phase ≠ .inReset) : s.dataBus = some s.bus.busData := by
  cases hp : s.phase <;> simp_all [State.dataBus]

/-! ### The release of nRESET (R119, R162) -/

theorem exec_resetRelease_inReset {s : State} (h : s.phase = .inReset) :
    exec .resetRelease s =
      .next { s with phase := .running, frame := { s.frame with period := some s.config.frameTime } } := by
  rw [exec_of_no_route s rfl]
  simp [State.effect, State.releaseReset, h]

theorem exec_resetRelease_running {s : State} (h : s.phase = .running) : exec .resetRelease s = .next s := by
  rw [exec_of_no_route s rfl, State.effect, releaseReset_running h]

/-! ### The application of VDD (R5, R56, R162) -/

theorem applyVdd_inReset {s : State} (h : s.phase = .inReset) : s.applyVdd = s.redraw.pinReset := by
  simp [State.applyVdd, h]

theorem applyVdd_of_not_inReset {s : State} (h : s.phase ≠ .inReset) : s.applyVdd = s.redraw := by
  cases hp : s.phase <;> simp_all [State.applyVdd]

/-- What the application of VDD keeps, clears and draws afresh, at whichever level nRESET stands. -/
theorem applyVdd_frame (s : State) :
    s.applyVdd.pending = s.pending ∧ s.applyVdd.pgood = s.pgood ∧ s.applyVdd.freeIndex = s.freeIndex + 1 ∧
      s.applyVdd.power = PowerSequencer.reset ∧ s.applyVdd.image = ⟨[], [], []⟩ ∧
      s.applyVdd.store.pairs = [] ∧ s.applyVdd.store.rows = [] := by
  by_cases h : s.phase = .inReset
  · rw [applyVdd_inReset h]
    exact ⟨rfl, rfl, rfl, rfl, rfl, rfl, rfl⟩
  · rw [applyVdd_of_not_inReset h]
    exact ⟨rfl, rfl, rfl, rfl, rfl, rfl, rfl⟩

theorem phase_applyVdd (s : State) :
    s.applyVdd.phase = if s.phase = .inReset then .inReset else .undefined := by
  by_cases h : s.phase = .inReset
  · rw [applyVdd_inReset h, if_pos h]
    rfl
  · rw [applyVdd_of_not_inReset h, if_neg h]
    rfl

/-- A pixel of planes in which nothing has been written reads the free value of its place. -/
theorem pixel_of_unwritten {s : State} (h : s.image = ⟨[], [], []⟩) (p : Plane) (x y : Nat) :
    s.pixel p x y = Config.powerUpLevel s.freeIndex p (pixelAddress x y) := by
  rw [State.pixel, h]
  cases p <;> rfl

theorem pairAt_of_unwritten {s : State} (h : s.store.pairs = []) (k : Nat) :
    s.pairAt k = Config.powerUpPair s.freeIndex k := by
  rw [State.pairAt, h]
  rfl

theorem rowWordAt_of_unwritten {s : State} (h : s.store.rows = []) (k : Nat) :
    s.rowWordAt k = Config.powerUpRow s.freeIndex k := by
  rw [State.rowWordAt, h]
  rfl

/-- With nRESET low the application of VDD leaves every block at its pin-reset state. -/
theorem applyVdd_inReset_blocks {s : State} (h : s.phase = .inReset) :
    { s.applyVdd with
      freeIndex := s.freeIndex, image := s.image, store := { s.applyVdd.store with pairs := [], rows := [] },
      bus := { s.applyVdd.bus with busData := 0 } } =
    { State.reset with
      pending := s.pending, phase := .inReset, freeIndex := s.freeIndex, pgood := s.pgood, image := s.image,
      frame := ⟨none, false, 0⟩ } := by
  rw [applyVdd_inReset h]
  rfl

/-! ### The part with undefined blocks, and in reset (R162) -/

/-- A command or event with a route draws the undefined blocks afresh, PGOOD standing at the pin's level. -/
theorem through_undefined {s : State} (h : s.phase = .undefined) (f : State → State) (r : Route) :
    ∃ b, s.through f r = { s.redraw with pgood := b } := by
  cases r with
  | write => exact ⟨s.redraw.pgood, by simp [State.through, State.access, h]⟩
  | read => exact ⟨s.redraw.pgood, by simp [State.through, State.readAccess, h]⟩
  | event => exact ⟨s.redraw.pgood, by simp [State.through, State.event, h]⟩
  | pin b => exact ⟨b, by simp [State.through, State.pinEvent, h]⟩

/-- Of the pins that act on the part as a whole, nRESET going low alone defines the undefined blocks. -/
theorem effect_of_no_route_undefined {c : Instr} {s : State} (hc : route c = none) (h : s.phase = .undefined)
    (hpin : c ≠ .pinReset) : s.effect c = s.redraw := by
  cases c with
  | pinReset => exact absurd rfl hpin
  | vddApplied => simp [State.effect, State.applyVdd, h]
  | resetRelease => simp [State.effect, State.releaseReset, h]
  | busAccessInReset a => simp [State.effect, State.accessInReset, h]
  | _ => simp [route] at hc

/-- The undefined phase is left by PIN_RESET alone (log 1). -/
theorem exec_undefined {c : Instr} {s : State} (h : s.phase = .undefined) (hpin : c ≠ .pinReset) :
    ∃ b, exec c s = .next { s.redraw with pgood := b } := by
  cases hr : route c with
  | none =>
    rw [exec_of_no_route s hr, effect_of_no_route_undefined hr h hpin]
    exact ⟨s.redraw.pgood, rfl⟩
  | some r =>
    obtain ⟨b, hb⟩ := through_undefined h (fun s => s.effect c) r
    exact ⟨b, by rw [exec_shape s hr, hb]⟩

theorem route_eq_pin {c : Instr} {b : Bool} (h : route c = some (.pin b)) : c = .pgoodRise ∨ c = .pgoodFall := by
  cases c with
  | pgoodRise => exact .inl rfl
  | pgoodFall => exact .inr rfl
  | _ => simp [route] at h

/-- While nRESET is low only a read, the PGOOD pin, and the pins that act on the part as a whole change the state. -/
theorem exec_inReset {c : Instr} {s : State} (h : s.phase = .inReset) (hread : c.isBusRead = false)
    (hvdd : c ≠ .vddApplied) (hpin : c ≠ .pinReset) (hrelease : c ≠ .resetRelease) (hrise : c ≠ .pgoodRise)
    (hfall : c ≠ .pgoodFall) : exec c s = .next s := by
  cases hr : route c with
  | none =>
    cases c with
    | vddApplied => exact absurd rfl hvdd
    | pinReset => exact absurd rfl hpin
    | resetRelease => exact absurd rfl hrelease
    | busAccessInReset a =>
      cases a with
      | read => cases hread
      | write => exact exec_write_inReset rfl h
    | _ => simp [route] at hr
  | some r =>
    cases r with
    | write => exact exec_write_inReset ((isBusWrite_iff c).mpr (.inl hr)) h
    | read =>
      rw [(isBusRead_iff c).mpr (.inl hr)] at hread
      cases hread
    | event => rw [exec_shape s hr, State.through, event_inReset h]
    | pin b => exact ((route_eq_pin hr).elim hrise hfall).elim

/-- Settles O52: the pin reset with its outputs, D[15:0], the release of nRESET, the application of VDD, and what
reaches the part while its blocks are undefined and while nRESET is low. -/
theorem pinResetAndVdd : Obligations.PinResetAndVdd := by
  intro s
  obtain ⟨hoe, hgst, hsck, hsle, hgck, hsdo⟩ := port_idle_of_none (s := s.pinReset) rfl
  obtain ⟨hpending, hpgood, hindex, hpower, himage, hpairs, hrows⟩ := applyVdd_frame s
  refine ⟨⟨s.pinReset, rfl, rfl, rfl, rfl, rfl, rfl, rfl, rfl, rfl, rfl, pinReset_released s, hoe, hgst, hsck, hsle,
      hgck, hsdo, nINT_of_no_flag rfl, dreq_eq_false_of_disabled rfl, nWait_of_not_stretched rfl,
      pwrEn_eq_false_of_reset rfl, (dataBus_eq_none_iff _).mpr rfl⟩,
    dataBus_eq_none_iff s, dataBus_of_not_inReset, exec_resetRelease_inReset,
    fun h => ⟨exec_resetRelease_running h, exec_busAccessInReset_running h⟩,
    ⟨s.applyVdd, rfl, hpending, hpgood, hindex, hpower, pwrEn_eq_false_of_reset hpower, phase_applyVdd s,
      pixel_of_unwritten himage, fun k => ⟨pairAt_of_unwritten hpairs k, rowWordAt_of_unwritten hrows k⟩,
      applyVdd_inReset_blocks⟩,
    fun c h hpin => ?_, fun _ h => exec_inReset h⟩
  obtain ⟨b, hb⟩ := exec_undefined h hpin
  exact ⟨_, hb, rfl, rfl, pwrEn_eq_false_of_reset rfl⟩

/-! ### The reset state (R161, R162; log 3) -/

/-- The reset state is the part after a pin reset whose nRESET has returned high. -/
theorem releaseReset_pinReset_reset : State.reset.pinReset.releaseReset = State.reset := rfl

/-- The release of nRESET leaves the blocks as the pin reset has put them. -/
theorem sameBlocks_pinReset_reset : State.reset.pinReset.sameBlocks State.reset :=
  ⟨rfl, rfl, rfl, rfl, rfl, rfl, rfl, rfl, rfl⟩

theorem mode_reset (m : Fin 8) : State.reset.mode m = Descriptor.zeroed :=
  Vector.getElem_replicate m.isLt

theorem slot_reset (n : Fin 16) : State.reset.slot n = Slot.cleared :=
  Vector.getElem_replicate n.isLt

theorem tile_reset {t : Tile} (h : t ∈ State.reset.tiles) : t = Tile.blank :=
  List.eq_of_mem_replicate h

theorem settled_reset : State.reset.settled = true := by
  rw [← releaseReset_pinReset_reset]
  exact (atRest_effect_of_no_route (c := .resetRelease) rfl (atRest_pinReset State.reset)).1 (by decide)

theorem storesCanonical_reset : State.reset.storesCanonical = true :=
  storesCanonical_of_sameBlocks sameBlocks_pinReset_reset rfl

theorem withinCapacity_reset : State.reset.withinCapacity = true :=
  withinCapacity_of_sameBlocks sameBlocks_pinReset_reset (withinCapacity_pinReset _)

theorem tileMapFits_reset : State.reset.tileMapFits = true :=
  tileMapFits_of_sameBlocks sameBlocks_pinReset_reset (tileMapFits_pinReset _)

theorem regionsSound_reset : State.reset.regionsSound :=
  regionsSound_of_sameBlocks sameBlocks_pinReset_reset (regionsSound_pinReset _)

theorem driveSound_reset : State.reset.driveSound :=
  (driveSound_iff _).mpr
    ⟨drivable_of_same (s := State.reset.pinReset) rfl rfl rfl rfl rfl rfl (drivable_pinReset _),
      scanSound_of_none rfl⟩

theorem requestsSound_reset : State.reset.requestsSound :=
  (requestsKept_of_queue (s := State.reset.pinReset) rfl rfl rfl rfl rfl (requestsKept_pinReset _)).2

/-- Settles O54: the fields by the reset values of their blocks, and each invariant carried from the pin reset over the
release of nRESET. -/
theorem resetState : Obligations.ResetState := by
  obtain ⟨hjobs, howners⟩ := regionsSound_reset
  exact ⟨rfl, rfl, rfl, rfl, rfl, rfl, rfl, rfl, rfl, rfl, mode_reset, rfl, rfl, rfl, rfl, rfl, rfl, slot_reset,
    List.length_replicate, fun _ => tile_reset, rfl, rfl, rfl, rfl, rfl, rfl, rfl, rfl, settled_reset,
    storesCanonical_reset, withinCapacity_reset, inRange_reset, tileMapFits_reset, driveSound_reset.1, hjobs, howners,
    driveSound_reset, requestsSound_reset⟩

end Sys2Proof.Machine
